-- ==== Sys2Proof/Word.lean ====
section
/-! DEFINITION. The two widths of the machine: `XLEN` = 8 and `PCLEN` = 16 (00_scope.md R5, R11).
Nothing else stands here: byte order, sign extension and bit fields are in Machine/Bits.lean. -/

namespace Sys2Proof

/-- A `u8`: registers, memory bytes, operand bytes (R11, R12). -/
abbrev Byte := BitVec 8

/-- A `u16`: the program counter and every CPU address (R11, R12). -/
abbrev Word := BitVec 16

end Sys2Proof
end

