-- ==== Sys2Proof/Machine/Bits.lean ====
section
/-! DEFINITION. Byte order, halves, extensions and bit fields (00_scope.md R11; 20_memory.md R73). -/

namespace Sys2Proof.Machine

/-- The 16-bit value whose low half is the byte at the lower address: little-endian (R73). -/
def wordOf (lo hi : Byte) : Word := hi ++ lo

/-- `w & 0xFF`. -/
def loByte (w : Word) : Byte := w.extractLsb' 0 8

/-- `w >> 8`. -/
def hiByte (w : Word) : Byte := w.extractLsb' 8 8

/-- `zext_16(b)` (R11): the byte as an address or an index. -/
def zext (b : Byte) : Word := b.setWidth 16

/-- `sext_8(b)` (R11) as a 16-bit two's-complement number; used by relative mode only (R124). -/
def sext (b : Byte) : Word := b.signExtend 16

/-- `v[i]`: bit `i` of a byte (R11). -/
def bit (v : Byte) (i : Nat) : Bool := v.getLsbD i

end Sys2Proof.Machine
end

