-- ==== Sys2Proof/Config.lean ====
section
/-! DEFINITION. The parameters of the machine that are not cartridge data (00_scope.md R5), the byte an
unlisted memory cell reads as, and the model's one free value. The numbers a test could show wrong
(vectors, masks, bit positions) stand under Machine/, where they are used. -/

namespace Sys2Proof

/-- `BUS_WRITE_VIOLATION_MODE` (R5, R72): what a write to an undecoded or ROM address does.
The spec leaves it open with default `halt` (D13), so it is a field of State and statements quantify over it. -/
inductive WriteMode where
  | halt
  | ignore
  deriving DecidableEq, Repr, Inhabited

/-- `MIRRORING` (R5, R43, R84): the nametable mirroring the cartridge header declares. -/
inductive Mirroring where
  | horizontal
  | vertical
  deriving DecidableEq, Repr, Inhabited

namespace Config

/-- What a memory cell that nothing has written reads as. DESIGN CHOICE (log entry 2, unsafe): the spec leaves
`RAM_INIT`, `VRAM_INIT`, `OAM_INIT` and `PAL_INIT` open (R5, R342). `State.powerOn` takes them as arguments. -/
def blankByte : Byte := 0

/-- FREE VALUE (log entry 3): a read of 0x8000–0xFFFF when no PRG bank exists. R95 refuses that configuration
(`step`, `cartLoad` and every host operation do), so the byte has no value in the spec. -/
opaque absentPrgByte : Word → Byte

end Config

end Sys2Proof
end

