-- ==== Sys2Proof/Machine/Memory.lean ====
section
/-! DEFINITION. One store of bytes as a list of cells in canonical form. Every array of the spec
(`RAM`, `PRG`, `CHR`, `NT`, `PAL`, `OAM`, `FB`; 10_state.md R27–R32, R44) is one such list. -/

namespace Sys2Proof.Machine

/-- Cells with rising addresses; a cell that is not listed holds `Config.blankByte`. -/
abbrev Memory := List Host.Cell

/-- The byte at index `a`. -/
def Memory.read : Memory → Nat → Byte
  | [], _ => Config.blankByte
  | (k, b) :: m, a => if a = k then b else Memory.read m a

/-- Store `v` at index `a`; storing what an unlisted cell reads as takes the cell out of the list. -/
def Memory.write : Memory → Nat → Byte → Memory
  | [], a, v => if v = Config.blankByte then [] else [(a, v)]
  | (k, b) :: m, a, v =>
    if a < k then
      if v = Config.blankByte then (k, b) :: m else (a, v) :: (k, b) :: m
    else if a = k then
      if v = Config.blankByte then m else (a, v) :: m
    else (k, b) :: Memory.write m a v

/-- Canonical from address `lo` on: rising addresses, no cell that reads as an unlisted one. -/
def Memory.wfFrom (lo : Nat) : Memory → Bool
  | [] => true
  | (k, b) :: m => decide (lo ≤ k) && decide (b ≠ Config.blankByte) && Memory.wfFrom (k + 1) m

/-- The canonical form: equal contents are equal lists. -/
def Memory.wf (m : Memory) : Bool := Memory.wfFrom 0 m

/-- Every listed cell has an index below `n`, the size of the array. -/
def Memory.fits (n : Nat) (m : Memory) : Bool := m.all fun c => decide (c.1 < n)

/-- The canonical form of an array of `n` bytes. -/
def Memory.sound (n : Nat) (m : Memory) : Bool := Memory.wf m && Memory.fits n m

/-- The store whose cells from `base` on are the bytes of a list (used to copy a cartridge image, R92). -/
def Memory.ofBytesFrom : Nat → List Byte → Memory
  | _, [] => []
  | base, b :: bs =>
    if b = Config.blankByte then Memory.ofBytesFrom (base + 1) bs
    else (base, b) :: Memory.ofBytesFrom (base + 1) bs

/-- `bytes[0..]` as a store. -/
def Memory.ofBytes (bytes : List Byte) : Memory := Memory.ofBytesFrom 0 bytes

end Sys2Proof.Machine
end

