-- ==== Sys2Proof/Machine/State.lean ====
section
/-! DEFINITION. The whole state of the machine (10_state.md R20–R49), grouped by owner as R2 groups it,
the ways an operation can stop, and the state after reset. -/

namespace Sys2Proof.Machine

/-- The complete list of fatal causes with the `info` each records (60_exceptions.md R300). -/
inductive FatalCause where
  /-- `UndefinedOpcode` (R301): the opcode byte and the address it was fetched from. -/
  | undefinedOpcode (op : Byte) (at_ : Word)
  /-- `BusWriteViolation` (R302): the address and the byte of a write to 0x4018–0xFFFF in mode `halt`. -/
  | busWriteViolation (addr : Word) (v : Byte)
  /-- `BadMagic` (R303): header bytes 0..3 are not the magic. -/
  | badMagic
  /-- `UnsupportedFileType` (R303): the header marks the extended container format. -/
  | unsupportedFileType
  deriving DecidableEq, Repr, Inhabited

/-- How an operation halts. Both ways are the spec's own, so stopping on them is safe. -/
inductive Fault where
  /-- `raise Fatal(cause, info)` (R15, R300). Raised by `step` (an undefined opcode), by `busWrite` (a violation
  in mode `halt`, so by any storing or read-modify-write instruction) and by `cartLoad`. Safe: the spec halts there. -/
  | fatal (cause : FatalCause)
  /-- An operation called after a halt (R8, R26: no operation is defined then). Raised by `step` and by the host
  operations. Safe: stuck, as 93 U8 asks. -/
  | afterHalt (cause : FatalCause)
  deriving DecidableEq, Repr, Inhabited

/-- What the model declines to do. -/
inductive Refusal where
  /-- An instruction without a meaning yet, by its mnemonic in the opcode table. Raised by no arm of this model. -/
  | notModelled (mnemonic : String)
  /-- An operation before `CartLoad` and `CpuReset` (93 U15 `refuse`). Raised by `step` and the host operations. Safe. -/
  | notBooted
  /-- A second `CartLoad` (R93: once at startup, no operation replaces a cartridge). Raised by `cartLoad`. Safe. -/
  | cartridgeAlreadyLoaded
  /-- `PRG_BANKS` = 0 (R95, 93 U5 `refuse`). Raised by `cartLoad`, `step` and the host operations. Safe. -/
  | noPrgBanks
  /-- `MAPPER` not 0 (60_exceptions.md R303, 93 U4 `refuse`): the loader takes the cartridge, and the model refuses to run
  it. Raised by `step` and the host operations. Safe. -/
  | unsupportedMapper (number : Byte)
  /-- An image shorter than its header declares (R92, 93 U12 `refuse`). Raised by `cartLoad`. Safe. -/
  | imageTooShort
  /-- `PpuRenderRow(y)` with `y` > 239 (R261, 93 U15 `refuse`). Raised by `perform`. Safe. -/
  | rowOutOfRange (y : Nat)
  deriving DecidableEq, Repr, Inhabited

/-- Which calls of the boot sequence have been made (70_reset_and_hazards.md R345). The model's own field (log entry 5):
it says when 93 U15 refuses an operation. -/
inductive Phase where
  | noCartridge
  | loaded
  | running
  deriving DecidableEq, Repr, Inhabited

/-- The CPU register file (R20–R23). -/
structure Cpu where
  /-- accumulator (R20) -/
  a : Byte
  /-- index register X (R20) -/
  x : Byte
  /-- index register Y (R20) -/
  y : Byte
  /-- stack pointer: the next free slot of page 1 (R21) -/
  s : Byte
  /-- program counter (R22) -/
  pc : Word
  /-- status, N7 V6 U5 B4 D3 I2 Z1 C0 (R23) -/
  p : Byte
  deriving DecidableEq, Repr, Inhabited

/-- The registers and memories of the PPU core (R30–R41). -/
structure Ppu where
  /-- control register, all 8 bits as written (R33) -/
  ctrl : Byte
  /-- mask register, all 8 bits as written (R34) -/
  mask : Byte
  /-- `status` bit 7 (R35) -/
  vblank : Bool
  /-- `status` bit 6, sprite-0 hit (R35) -/
  spr0 : Bool
  /-- `status` bit 5, sprite overflow (R35): set by nothing -/
  ovf : Bool
  /-- index of the OAM data port (R36) -/
  oamAddr : Byte
  /-- packed scroll, X high, Y low (R37) -/
  scroll : Word
  /-- address of the VRAM data port (R38) -/
  vramAddr : Word
  /-- read-ahead latch (R39) -/
  dataLatch : Byte
  /-- write toggle: true when the next write is the second of a pair (R40) -/
  w : Bool
  /-- buffered first byte of a pair (R40) -/
  wBuf : Byte
  /-- scanline counter, −1..260 (R41) -/
  scanline : Int
  /-- `NT[t][i]` at index `1024 t + i` (R30) -/
  nt : Memory
  /-- `PAL[i]`, 32 bytes (R31) -/
  pal : Memory
  /-- `OAM[i]`, 256 bytes (R32) -/
  oam : Memory
  deriving DecidableEq, Repr, Inhabited

/-- The joypad shift registers and the button masks the host sets (R42). -/
structure Joypads where
  shift0 : Byte
  shift1 : Byte
  state0 : Byte
  state1 : Byte
  deriving DecidableEq, Repr, Inhabited

/-- The cartridge configuration and stores, written by `CartLoad` (R28, R29, R43). -/
structure Cartridge where
  /-- `PRG_BANKS` -/
  prgBanks : Byte
  /-- `CHR_BANKS`; 0 means one RAM-backed bank -/
  chrBanks : Byte
  mirroring : Mirroring
  /-- `MAPPER`: read by no decoding (R94), only by the refusal of R303 -/
  mapper : Byte
  prg : Memory
  chr : Memory
  deriving DecidableEq, Repr, Inhabited

/-- Everything the spec gives the machine. -/
structure State where
  cpu : Cpu
  ppu : Ppu
  joy : Joypads
  cart : Cartridge
  /-- `RAM[0..2047]` (R27) -/
  ram : Memory
  /-- `FB[y][x]` at index `256 y + x` (R44) -/
  fb : Memory
  /-- the halt record (R26) -/
  halted : Option FatalCause
  /-- the model's own: how far the boot sequence has come -/
  phase : Phase
  /-- `BUS_WRITE_VIOLATION_MODE` (R5) -/
  writeMode : WriteMode
  deriving DecidableEq, Repr, Inhabited

/-- How an operation that answers an `α` ends: with it, with a halt, or with a refusal (R8). -/
abbrev Answer (α : Type) := Host.Outcome α Fault Refusal

/-- The answer of an operation that changes state: the next state, a halt, or a refusal (R8). -/
abbrev Result := Answer State

/-- `CpuReset` values of the registers but `PC` (R340), with the word the reset vector held. -/
def Cpu.afterReset (vector : Word) : Cpu :=
  { a := 0x00, x := 0x00, y := 0x00, s := 0xFD, pc := vector, p := 0x24 }

/-- `PpuReset` values of the registers (R341), over memories it does not change. -/
def Ppu.afterReset (nt pal oam : Memory) : Ppu :=
  { ctrl := 0x00, mask := 0x00, vblank := false, spr0 := false, ovf := false, oamAddr := 0x00, scroll := 0x0000,
    vramAddr := 0x0000, dataLatch := 0x00, w := false, wBuf := 0x00, scanline := -1, nt := nt, pal := pal, oam := oam }

/-- The machine right after reset (R46): the boot sequence with a blank one-bank cartridge and every open memory
blank. The spec gives no image (log entry 4) and no power-on contents (log entry 2); a blank vector word is 0x0000. -/
def State.reset : State :=
  { cpu := Cpu.afterReset 0x0000
    ppu := Ppu.afterReset [] [] []
    joy := { shift0 := 0x00, shift1 := 0x00, state0 := 0x00, state1 := 0x00 }
    cart := { prgBanks := 1, chrBanks := 0, mirroring := .horizontal, mapper := 0, prg := [], chr := [] }
    ram := []
    fb := []
    halted := none
    phase := .running
    writeMode := .halt }

end Sys2Proof.Machine
end

