-- ==== Sys2Proof/Machine/Registers.lean ====
section
/-! DEFINITION. The named writes to one piece of state each, and the views of packed registers.
Every register has one home in State and is written through the functions below (00_scope.md R12). -/

namespace Sys2Proof.Machine

/-! CPU registers. The types keep the masks of R12: a byte register stores 8 bits, `PC` 16. -/

def State.setA (s : State) (v : Byte) : State := { s with cpu := { s.cpu with a := v } }
def State.setX (s : State) (v : Byte) : State := { s with cpu := { s.cpu with x := v } }
def State.setY (s : State) (v : Byte) : State := { s with cpu := { s.cpu with y := v } }
def State.setS (s : State) (v : Byte) : State := { s with cpu := { s.cpu with s := v } }
def State.setPc (s : State) (v : Word) : State := { s with cpu := { s.cpu with pc := v } }
def State.setP (s : State) (v : Byte) : State := { s with cpu := { s.cpu with p := v } }

/-! Whole components. -/

def State.setRam (s : State) (m : Memory) : State := { s with ram := m }
def State.setFb (s : State) (m : Memory) : State := { s with fb := m }
def State.setPpu (s : State) (p : Ppu) : State := { s with ppu := p }
def State.setJoy (s : State) (j : Joypads) : State := { s with joy := j }
def State.setChr (s : State) (m : Memory) : State := { s with cart := { s.cart with chr := m } }
def State.setOam (s : State) (m : Memory) : State := { s with ppu := { s.ppu with oam := m } }

/-- The status byte's top three bits (R35): vblank 7, sprite-0 hit 6, overflow 5; bits 4:0 do not exist and are 0 here. -/
def Ppu.statusTop (p : Ppu) : Byte :=
  BitVec.ofBool p.vblank ++ BitVec.ofBool p.spr0 ++ BitVec.ofBool p.ovf ++ (0#5)

/-- `scroll_x` = `scroll[15:8]` (R37). -/
def Ppu.scrollX (p : Ppu) : Byte := hiByte p.scroll

/-- `scroll_y` = `scroll[7:0]` (R37). -/
def Ppu.scrollY (p : Ppu) : Byte := loByte p.scroll

/-- `CHR_IS_RAM` (R5): the pattern store is writable through the data port. -/
def Cartridge.chrIsRam (c : Cartridge) : Bool := c.chrBanks == 0

end Sys2Proof.Machine
end

