-- ==== Sys2Proof/Machine/Vram.lean ====
section
/-! DEFINITION. The PPU's own address space (20_memory.md R81–R87): pattern tables, nametables under the
cartridge's mirroring, palette with its aliased slots. -/

namespace Sys2Proof.Machine

/-- Where a PPU address leads. -/
inductive VramPlace where
  /-- `CHR[i]` (R82) -/
  | chr (i : Nat)
  /-- `NT[t][off]` at index `1024 t + off` (R84) -/
  | nt (i : Nat)
  /-- `PAL[i]` (R87) -/
  | pal (i : Nat)
  deriving DecidableEq, Repr

/-- The physical table of logical quadrant `q` (R84): vertical maps 0,2 to table 0; horizontal maps 0,1 to table 0. -/
def nametableOf (m : Mirroring) (q : Nat) : Nat :=
  match m with
  | .vertical => q % 2
  | .horizontal => q / 2

/-- The palette slot of a palette address: five bits, the four mirror slots aliased to slot 0 (R87). -/
def paletteSlot (a : Nat) : Nat :=
  if a % 32 = 0x10 ∨ a % 32 = 0x14 ∨ a % 32 = 0x18 ∨ a % 32 = 0x1C then 0x00 else a % 32

/-- The location a 14-bit address selects; any address is first reduced with `& 0x3FFF` (R81, R85). -/
def vramPlace (m : Mirroring) (addr : Nat) : VramPlace :=
  let a := addr % 0x4000
  if a < 0x2000 then .chr a
  else if a < 0x3F00 then .nt (nametableOf m ((a / 0x400) % 4) * 0x400 + a % 0x400)
  else .pal (paletteSlot a)

/-- `VramRead(a)` (R85): no side effect. -/
def vramRead (s : State) (addr : Nat) : Byte :=
  match vramPlace s.cart.mirroring addr with
  | .chr i => Memory.read s.cart.chr i
  | .nt i => Memory.read s.ppu.nt i
  | .pal i => Memory.read s.ppu.pal i

/-- `VramWrite(a, v)` (R86); a write to the pattern range changes `CHR` only when it is RAM (R83). -/
def vramWrite (s : State) (addr : Nat) (v : Byte) : State :=
  match vramPlace s.cart.mirroring addr with
  | .chr i => if s.cart.chrIsRam then s.setChr (Memory.write s.cart.chr i v) else s
  | .nt i => s.setPpu { s.ppu with nt := Memory.write s.ppu.nt i v }
  | .pal i => s.setPpu { s.ppu with pal := Memory.write s.ppu.pal i v }

end Sys2Proof.Machine
end

