-- ==== Sys2Proof/Machine/PpuPort.lean ====
section
/-! DEFINITION. The eight-address register port of the PPU (47_ppu_register_port.md R230–R244). -/

namespace Sys2Proof.Machine

/-- The registers behind the port (R230). -/
inductive Port where
  | control | mask | status | oamAddress | oamData | scroll | vramAddress | vramData
  deriving DecidableEq, Repr

/-- The register of port offset `addr & 7` (R64, R230; the numbers are the spec's D20, log entry 6). -/
def portOf (addr : Nat) : Port :=
  match addr % 8 with
  | 0 => .control
  | 1 => .mask
  | 2 => .status
  | 3 => .oamAddress
  | 4 => .oamData
  | 5 => .scroll
  | 6 => .vramAddress
  | _ => .vramData

/-- `Step()` (R243): 32 when `ctrl[2]` is set, else 1. -/
def vramStep (p : Ppu) : Word := if bit p.ctrl 2 then 32 else 1

/-- The address register after a data-port access, modulo 65536 (R241–R243). -/
def advanceVramAddr (p : Ppu) : Ppu := { p with vramAddr := p.vramAddr + vramStep p }

/-- Status read (R235): the top three bits over the latch's low five; vblank and the write toggle are cleared. -/
def readStatus (s : State) : Byte × State :=
  (s.ppu.statusTop ||| (s.ppu.dataLatch &&& 0x1F), s.setPpu { s.ppu with vblank := false, w := false })

/-- Data-port read (R241): the old latch, or the byte itself from 0x3F00 on; the latch takes the byte either way. -/
def readVramData (s : State) : Byte × State :=
  let a := s.ppu.vramAddr.toNat % 0x4000
  let nv := vramRead s a
  let v := if 0x3F00 ≤ a then nv else s.ppu.dataLatch
  (v, s.setPpu (advanceVramAddr { s.ppu with dataLatch := nv }))

/-- `PpuRegRead(r)` (R230, R231, R235, R238, R241). -/
def ppuRegRead (s : State) (r : Port) : Byte × State :=
  match r with
  | .status => readStatus s
  | .oamData => (Memory.read s.ppu.oam s.ppu.oamAddr.toNat, s)
  | .vramData => readVramData s
  | .control => (0, s)
  | .mask => (0, s)
  | .oamAddress => (0, s)
  | .scroll => (0, s)
  | .vramAddress => (0, s)

/-- The first write of a pair is buffered and sets the toggle (R240). -/
def bufferFirst (v : Byte) (p : Ppu) : Ppu := { p with wBuf := v, w := true }

/-- `PpuRegWrite(r, v)` (R230, R232, R233, R236, R237, R239, R240, R242). -/
def ppuRegWrite (s : State) (r : Port) (v : Byte) : State :=
  match r with
  | .control => s.setPpu { s.ppu with ctrl := v }
  | .mask => s.setPpu { s.ppu with mask := v }
  | .status => s
  | .oamAddress => s.setPpu { s.ppu with oamAddr := v }
  | .oamData =>
    s.setPpu { s.ppu with oam := Memory.write s.ppu.oam s.ppu.oamAddr.toNat v, oamAddr := s.ppu.oamAddr + 1 }
  | .scroll =>
    if s.ppu.w then s.setPpu { s.ppu with scroll := wordOf v s.ppu.wBuf, w := false }
    else s.setPpu (bufferFirst v s.ppu)
  | .vramAddress =>
    if s.ppu.w then s.setPpu { s.ppu with vramAddr := wordOf v s.ppu.wBuf, w := false }
    else s.setPpu (bufferFirst v s.ppu)
  | .vramData =>
    let t := vramWrite s (s.ppu.vramAddr.toNat % 0x4000) v
    t.setPpu (advanceVramAddr t.ppu)

end Sys2Proof.Machine
end

