-- ==== Sys2Proof/Machine/Bus.lean ====
section
/-! DEFINITION. The CPU-side address decoder (20_memory.md R60–R72), the joypad window and the OAM DMA
(47_ppu_register_port.md R245–R247). Reads are total and may change state; writes may halt. -/

namespace Sys2Proof.Machine

/-- The window an address falls in (R61, R62); the ranges are tested in the spec's order. -/
inductive Window where
  | ram | ppu | apu | undecoded | prg
  deriving DecidableEq, Repr

/-- The decoder (R61). -/
def windowOf (a : Word) : Window :=
  if a.toNat ≤ 0x1FFF then .ram
  else if a.toNat ≤ 0x3FFF then .ppu
  else if a.toNat ≤ 0x4017 then .apu
  else if 0x8000 ≤ a.toNat then .prg
  else .undecoded

/-- Index into `RAM`: the address masked with 0x07FF (R63). -/
def ramIndex (a : Word) : Nat := a.toNat % 0x0800

/-- Index into `PRG`: masked with 0x3FFF for one bank, with 0x7FFF for more (R66). -/
def prgIndex (banks : Byte) (a : Word) : Nat :=
  if banks = 1 then a.toNat % 0x4000 else a.toNat % 0x8000

/-- A read of the PRG window (R66); with no bank the byte is the free value of log entry 3 (R95). -/
def prgRead (c : Cartridge) (a : Word) : Byte :=
  if c.prgBanks = 0 then Config.absentPrgByte a else Memory.read c.prg (prgIndex c.prgBanks a)

/-- The bit a joypad register delivers: its old top bit, as the byte 0 or 1 (R68). -/
def joyBit (shift : Byte) : Byte := if bit shift 7 then 1 else 0

/-- `JoyRead(0)` (R68). -/
def joyRead0 (s : State) : Byte × State :=
  (joyBit s.joy.shift0, s.setJoy { s.joy with shift0 := s.joy.shift0 <<< 1 })

/-- `JoyRead(1)` (R68). -/
def joyRead1 (s : State) : Byte × State :=
  (joyBit s.joy.shift1, s.setJoy { s.joy with shift1 := s.joy.shift1 <<< 1 })

/-- Reload of both shift registers from the live button masks (R70). -/
def joyReload (s : State) : State :=
  s.setJoy { s.joy with shift0 := s.joy.state0, shift1 := s.joy.state1 }

/-- The registers of the APU/joypad window that do something (R65; the offsets are the spec's D14, D27, log entry 6). -/
inductive ApuPort where
  | dma | joy0 | joy1 | unimplemented
  deriving DecidableEq, Repr

/-- Window offset `addr & 0x1F` (R65). -/
def apuPortOf (addr : Nat) : ApuPort :=
  match addr % 32 with
  | 0x14 => .dma
  | 0x16 => .joy0
  | 0x17 => .joy1
  | _ => .unimplemented

/-- `ApuRead(o)` (R67). -/
def apuRead (s : State) (o : ApuPort) : Byte × State :=
  match o with
  | .joy0 => joyRead0 s
  | .joy1 => joyRead1 s
  | .dma => (0, s)
  | .unimplemented => (0, s)

/-- `BusRead(addr)` (R61); an undecoded address reads as 0 (R71). -/
def busRead (s : State) (a : Word) : Byte × State :=
  match windowOf a with
  | .ram => (Memory.read s.ram (ramIndex a), s)
  | .ppu => ppuRegRead s (portOf a.toNat)
  | .apu => apuRead s (apuPortOf a.toNat)
  | .prg => (prgRead s.cart a, s)
  | .undecoded => (0, s)

/-- The source address of byte `i` of a DMA: `((page << 8) + i) & 0xFFFF` (R246). -/
def dmaSource (page : Byte) (i : Nat) : Word := BitVec.ofNat 16 (page.toNat * 256 + i)

/-- `count` bytes of the copy from index `i` on, in increasing order; each read is a bus read (R246). -/
def oamDmaFrom (page : Byte) : Nat → Nat → State → State
  | 0, _, s => s
  | count + 1, i, s =>
    let r := busRead s (dmaSource page i)
    oamDmaFrom page count (i + 1) (r.2.setOam (Memory.write r.2.ppu.oam i r.1))

/-- The whole OAM DMA: 256 bytes from `page << 8` into `OAM[0..255]`, whatever `oam_addr` is (R246). -/
def oamDma (page : Byte) (s : State) : State := oamDmaFrom page 256 0 s

/-- `ApuWrite(o, v)` (R69, R70). -/
def apuWrite (s : State) (o : ApuPort) (v : Byte) : State :=
  match o with
  | .dma => oamDma v s
  | .joy0 => joyReload s
  | .joy1 => s
  | .unimplemented => s

/-- `BusWriteViolation(addr, v)` (R72): a halt, or in mode `ignore` no effect; nothing is stored either way. -/
def writeViolation (s : State) (a : Word) (v : Byte) : Result :=
  match s.writeMode with
  | .halt => .fault (.fatal (.busWriteViolation a v))
  | .ignore => .next s

/-- `BusWrite(addr, v)` (R62). -/
def busWrite (s : State) (a : Word) (v : Byte) : Result :=
  match windowOf a with
  | .ram => .next (s.setRam (Memory.write s.ram (ramIndex a) v))
  | .ppu => .next (ppuRegWrite s (portOf a.toNat) v)
  | .apu => .next (apuWrite s (apuPortOf a.toNat) v)
  | .undecoded => writeViolation s a v
  | .prg => writeViolation s a v

end Sys2Proof.Machine
end

