-- ==== Sys2Proof/Machine/Flags.lean ====
section
/-! DEFINITION. The flags of `P` (10_state.md R23–R25) and every flag computation of the instruction rules. -/

namespace Sys2Proof.Machine

/-- The eight bits of `P` by name (R23). -/
inductive Flag where
  | n | v | u | b | d | i | z | c
  deriving DecidableEq, Repr

/-- Bit positions N7 V6 U5 B4 D3 I2 Z1 C0. PRESUMED by the spec itself (R23, D2; log entry 6). -/
def Flag.position : Flag → Nat
  | .n => 7
  | .v => 6
  | .u => 5
  | .b => 4
  | .d => 3
  | .i => 2
  | .z => 1
  | .c => 0

/-- The mask column of R23. -/
def Flag.mask (f : Flag) : Byte := 1#8 <<< f.position

/-- One flag of a status byte. -/
def flagOf (p : Byte) (f : Flag) : Bool := p.getLsbD f.position

/-- A status byte with one flag written. -/
def withFlag (p : Byte) (f : Flag) (on : Bool) : Byte :=
  if on then p ||| f.mask else p &&& ~~~f.mask

/-- `P.f`. -/
def State.flag (s : State) (f : Flag) : Bool := flagOf s.cpu.p f

/-- `P.f <- on`. -/
def State.setFlag (s : State) (f : Flag) (on : Bool) : State := s.setP (withFlag s.cpu.p f on)

/-- `SetZN(v)` (R14). -/
def setZN (v : Byte) (s : State) : State :=
  (s.setFlag .z (v == 0)).setFlag .n (bit v 7)

/-- The byte `PHP` and `BRK` push: bits 4 and 5 set (R211, R222). -/
def pushedByProgram (p : Byte) : Byte := p ||| 0x30

/-- The status NMI entry leaves and pushes: B clear, U and I set (R310). -/
def statusForNmi (p : Byte) : Byte := (p &&& 0xEF) ||| 0x20 ||| 0x04

/-- What `PLP` and `RTI` make of the byte they pull: bits 4 and 5 discarded, U forced to 1 (R213, R223). -/
def pulledStatus (v : Byte) : Byte := (v &&& 0xCF) ||| 0x20

/-- The carry as a number. -/
def carryIn (c : Bool) : Nat := if c then 1 else 0

/-- `t = A + M + C`, the "9-bit intermediate sum" (R160). -/
def adcSum (a m : Byte) (c : Bool) : Nat := a.toNat + m.toNat + carryIn c

/-- `r = t & 0xFF` (R160). -/
def adcByte (a m : Byte) (c : Bool) : Byte := BitVec.ofNat 8 (adcSum a m c)

/-- `P.C <- (t >> 8) & 1` (R160). -/
def adcCarry (a m : Byte) (c : Bool) : Bool := (adcSum a m c / 256) % 2 == 1

/-- `P.V <- (((A ^ r) & (M ^ r)) >> 7) & 1`, old `A` (R160). -/
def adcOverflow (a m : Byte) (c : Bool) : Bool :=
  bit ((a ^^^ adcByte a m c) &&& (m ^^^ adcByte a m c)) 7

/-- The C of a compare: the integer difference is not negative (R165, D11). -/
def compareCarry (r m : Byte) : Bool := decide ((0 : Int) ≤ (r.toNat : Int) - (m.toNat : Int))

/-- `t & 0xFF` of a compare (R165). -/
def compareByte (r m : Byte) : Byte := r - m

end Sys2Proof.Machine
end

