-- ==== Sys2Proof/Machine/Ops.lean ====
section
/-! DEFINITION. The instruction-stream and stack primitives (00_scope.md R14), entering a handler and returning
from one (60_exceptions.md R309–R312), and chaining after a write that may halt. -/

namespace Sys2Proof.Machine

/-- Go on with `f` from the next state; a halt or a refusal ends the operation (R8, R15). -/
def andThen (r : Result) (f : State → Result) : Result :=
  match r with
  | .next t => f t
  | .fault e => .fault e
  | .refused e => .refused e

/-- `Fetch8()` (R14): a bus read at `PC`, then `PC <- PC + 1` modulo 65536. -/
def fetch8 (s : State) : Byte × State :=
  let r := busRead s s.cpu.pc
  (r.1, r.2.setPc (r.2.cpu.pc + 1))

/-- The address `0x0100 + S` (R21; the base is the spec's D5, log entry 6). -/
def stackAddr (p : Byte) : Word := 0x0100 + zext p

/-- `Push8(v)` (R14): write at `0x0100 + S`, then decrement. The stack page is work RAM, so the write cannot violate. -/
def push8 (v : Byte) (s : State) : State :=
  (s.setRam (Memory.write s.ram (ramIndex (stackAddr s.cpu.s)) v)).setS (s.cpu.s - 1)

/-- `Pull8()` (R14): increment, then read at `0x0100 + S`. -/
def pull8 (s : State) : Byte × State :=
  (Memory.read s.ram (ramIndex (stackAddr (s.cpu.s + 1))), s.setS (s.cpu.s + 1))

/-- Two pushes of a word, high byte first (R73, R200, R310). -/
def pushWord (w : Word) (s : State) : State := push8 (loByte w) (push8 (hiByte w) s)

/-- Two pulls, low byte first (R201, R223). -/
def pullWord (s : State) : Word × State :=
  let l := pull8 s
  let h := pull8 l.2
  (wordOf l.1 h.1, h.2)

/-- A word read as two bus reads, low byte first (R13, R73); the two addresses are the caller's. -/
def readWord (aLo aHi : Word) (s : State) : Word × State :=
  let l := busRead s aLo
  let h := busRead l.2 aHi
  (wordOf l.1 h.1, h.2)

/-- `VEC_NMI` (R5, R314; the number is the spec's D5, log entry 6). -/
def vecNmi : Word := 0xFFFA

/-- `VEC_RESET` (R5, R314). -/
def vecReset : Word := 0xFFFC

/-- `VEC_BRK` (R5, R314). -/
def vecBrk : Word := 0xFFFE

/-- The word at a vector (R314). -/
def readVector (vec : Word) (s : State) : Word × State := readWord vec (vec + 1) s

/-- TAKING AN EXCEPTION, shared by `BRK` (R222) and NMI entry (R310): push the return address high byte first, push a
status byte, leave a status, continue at the vector's word. -/
def enterHandler (ret vec : Word) (pushed live : Byte) (s : State) : State :=
  let r := readVector vec ((push8 pushed (pushWord ret s)).setP live)
  r.2.setPc r.1

/-- RETURNING from a handler (R223, R312): status, then `PC` low, then high, with no adjustment. -/
def returnFromHandler (s : State) : State :=
  let p := pull8 s
  let r := pullWord (p.2.setP (pulledStatus p.1))
  r.2.setPc r.1

/-- `CpuNmi()` (R310): the return address is the next instruction's, the pushed and the live status are the same byte. -/
def cpuNmi (s : State) : State :=
  enterHandler s.cpu.pc vecNmi (statusForNmi s.cpu.p) (statusForNmi s.cpu.p) s

end Sys2Proof.Machine
end

