-- ==== Sys2Proof/Machine/Operands.lean ====
section
/-! DEFINITION. The addressing modes (30_encoding.md R113–R124) and the access classes (R130). An effective address is
a function of the operand bytes and the state; the modes that read a pointer give the state after the reads. -/

namespace Sys2Proof.Machine

/-- `ZP` (R116). -/
def eaZp (z : Byte) (s : State) : Word × State := (zext z, s)

/-- `ZPX` (R117): the sum wraps within zero page. -/
def eaZpx (z : Byte) (s : State) : Word × State := (zext (z + s.cpu.x), s)

/-- `ZPY` (R118). -/
def eaZpy (z : Byte) (s : State) : Word × State := (zext (z + s.cpu.y), s)

/-- `ABS` (R115). -/
def eaAbs (a : Word) (s : State) : Word × State := (a, s)

/-- `ABX` (R119): the sum wraps modulo 65536. -/
def eaAbx (a : Word) (s : State) : Word × State := (a + zext s.cpu.x, s)

/-- `ABY` (R120). -/
def eaAby (a : Word) (s : State) : Word × State := (a + zext s.cpu.y, s)

/-- Where the high byte of the `JMP (a)` pointer stands: the page-wrap of R121. -/
def indHighAddr (ptr : Word) : Word := (ptr &&& 0xFF00) ||| ((ptr + 1) &&& 0x00FF)

/-- `IND` (R121). -/
def eaInd (ptr : Word) (s : State) : Word × State := readWord ptr (indHighAddr ptr) s

/-- `IZX` (R122): both pointer bytes wrap within page 0. -/
def eaIzx (z : Byte) (s : State) : Word × State :=
  readWord (zext (z + s.cpu.x)) (zext (z + s.cpu.x + 1)) s

/-- `IZY` (R123): the pointer wraps within page 0, the sum modulo 65536. -/
def eaIzy (z : Byte) (s : State) : Word × State :=
  let r := readWord (zext z) (zext (z + 1)) s
  (r.1 + zext r.2.cpu.y, r.2)

/-- `REL` (R124): the target from the address after the branch. -/
def branchTarget (off : Byte) (s : State) : Word := s.cpu.pc + sext off

/-- Read class (R130): one bus read at the effective address. -/
def readAt (e : Word × State) : Byte × State := busRead e.2 e.1

/-- `IMM` (R114): the value is the operand byte, already read once by the fetch. -/
def immediate (v : Byte) (s : State) : Byte × State := (v, s)

/-- Write class (R130): one bus write at the effective address, no read of it. -/
def writeAt (e : Word × State) (v : Byte) : Result := busWrite e.2 e.1 v

end Sys2Proof.Machine
end

