-- ==== Sys2Proof/Machine/Alu.lean ====
section
/-! DEFINITION. The operations the meanings share: one per mnemonic, over an operand already read or an address
already resolved (files 40 to 44 of the spec). -/

namespace Sys2Proof.Machine

/-! Loads: the operand is the byte read and the state after the read (R141–R143). -/

def loadA (o : Byte × State) : Result := .next (setZN o.1 (o.2.setA o.1))
def loadX (o : Byte × State) : Result := .next (setZN o.1 (o.2.setX o.1))
def loadY (o : Byte × State) : Result := .next (setZN o.1 (o.2.setY o.1))

/-! Stores: the register is the one of the state after address resolution, which changes no register (R144–R146). -/

def storeA (e : Word × State) : Result := writeAt e e.2.cpu.a
def storeX (e : Word × State) : Result := writeAt e e.2.cpu.x
def storeY (e : Word × State) : Result := writeAt e e.2.cpu.y

/-- `A <- A + M + C` with C, V, Z, N (R160); `SBC` is the same with the complemented byte (R161). Binary whatever
`P.D` holds (R176). -/
def addWithCarry (m : Byte) (s : State) : State :=
  let a := s.cpu.a
  let c := s.flag .c
  setZN (adcByte a m c)
    (((s.setFlag .c (adcCarry a m c)).setFlag .v (adcOverflow a m c)).setA (adcByte a m c))

def addA (o : Byte × State) : Result := .next (addWithCarry o.1 o.2)
def subA (o : Byte × State) : Result := .next (addWithCarry (o.1 ^^^ 0xFF) o.2)

/-! Logic on the accumulator (R162–R164). -/

def andA (o : Byte × State) : Result := loadA (o.2.cpu.a &&& o.1, o.2)
def orA (o : Byte × State) : Result := loadA (o.2.cpu.a ||| o.1, o.2)
def eorA (o : Byte × State) : Result := loadA (o.2.cpu.a ^^^ o.1, o.2)

/-- C, Z, N of `r − m`; nothing is stored (R165–R167). -/
def compareWith (r m : Byte) (s : State) : State :=
  setZN (compareByte r m) (s.setFlag .c (compareCarry r m))

def compareA (o : Byte × State) : Result := .next (compareWith o.2.cpu.a o.1 o.2)
def compareX (o : Byte × State) : Result := .next (compareWith o.2.cpu.x o.1 o.2)
def compareY (o : Byte × State) : Result := .next (compareWith o.2.cpu.y o.1 o.2)

/-- `BIT` (R168): Z from the and, N and V from the operand itself. -/
def bitTest (o : Byte × State) : Result :=
  .next (((o.2.setFlag .z (o.2.cpu.a &&& o.1 == 0)).setFlag .n (bit o.1 7)).setFlag .v (bit o.1 6))

/-- What a shift or rotate makes of a byte and the carry before: the byte and the carry after (R180–R183). -/
abbrev Shifter := Byte → Bool → Byte × Bool

def shiftLeft : Shifter := fun v _ => (v <<< 1, bit v 7)
def shiftRight : Shifter := fun v _ => (v >>> 1, bit v 0)
def rotateLeft : Shifter := fun v c => ((v <<< 1) ||| (if c then 0x01 else 0x00), bit v 7)
def rotateRight : Shifter := fun v c => ((v >>> 1) ||| (if c then 0x80 else 0x00), bit v 0)

/-- A shift in `IMP` mode: the operand is `A` (R113, R180–R183). -/
def shiftA (f : Shifter) (s : State) : Result :=
  let r := f s.cpu.a (s.flag .c)
  .next (setZN r.1 ((s.setFlag .c r.2).setA r.1))

/-- A shift in a memory mode: one read, then one write to the same address, Z and N last (R130, R180–R183). -/
def shiftMem (f : Shifter) (e : Word × State) : Result :=
  let o := readAt e
  let r := f o.1 (o.2.flag .c)
  andThen (busWrite (o.2.setFlag .c r.2) e.1 r.1) fun t => .next (setZN r.1 t)

/-- `INC`, `DEC`: one read, then one write of the new byte, Z and N last (R169, R170). -/
def stepMem (f : Byte → Byte) (e : Word × State) : Result :=
  let o := readAt e
  andThen (busWrite o.2 e.1 (f o.1)) fun t => .next (setZN (f o.1) t)

def incByte (v : Byte) : Byte := v + 1
def decByte (v : Byte) : Byte := v - 1

/-- A conditional branch (R190): `PC` is already the address of the next instruction. -/
def branchIf (cond : Bool) (off : Byte) (s : State) : Result :=
  .next (if cond then s.setPc (branchTarget off s) else s)

/-- Jump class (R130, R199): the effective address becomes `PC`; nothing is read there. -/
def jumpTo (e : Word × State) : Result := .next (e.2.setPc e.1)

/-- `JSR` (R200): push the address of the instruction's last byte, high byte first. -/
def callTo (e : Word × State) : Result := .next ((pushWord (e.2.cpu.pc - 1) e.2).setPc e.1)

end Sys2Proof.Machine
end

