-- ==== Sys2Proof/Machine/Arithmetic.lean ====
section
/-! DEFINITION. Arithmetic, logic, compare, bit-test, increment and decrement instructions (41_arithmetic_logic.md R160–R176): one meaning per
opcode, run after the fetch, so `PC` is already the address of the next instruction (R140). -/

namespace Sys2Proof.Machine

/-- `ADC #$nn` (69): R160, mode R114. -/
def execAdcImm (v : Byte) (s : State) : Result := addA (immediate v s)

/-- `ADC $nn` (65): R160, mode R116. -/
def execAdcZp (z : Byte) (s : State) : Result := addA (readAt (eaZp z s))

/-- `ADC $nn,X` (75): R160, mode R117. -/
def execAdcZpx (z : Byte) (s : State) : Result := addA (readAt (eaZpx z s))

/-- `ADC $nnnn` (6D): R160, mode R115. -/
def execAdcAbs (a : Word) (s : State) : Result := addA (readAt (eaAbs a s))

/-- `ADC $nnnn,X` (7D): R160, mode R119. -/
def execAdcAbx (a : Word) (s : State) : Result := addA (readAt (eaAbx a s))

/-- `ADC $nnnn,Y` (79): R160, mode R120. -/
def execAdcAby (a : Word) (s : State) : Result := addA (readAt (eaAby a s))

/-- `ADC ($nn,X)` (61): R160, mode R122. -/
def execAdcIzx (z : Byte) (s : State) : Result := addA (readAt (eaIzx z s))

/-- `ADC ($nn),Y` (71): R160, mode R123. -/
def execAdcIzy (z : Byte) (s : State) : Result := addA (readAt (eaIzy z s))

/-- `SBC #$nn` (E9): R161, mode R114. -/
def execSbcImm (v : Byte) (s : State) : Result := subA (immediate v s)

/-- `SBC $nn` (E5): R161, mode R116. -/
def execSbcZp (z : Byte) (s : State) : Result := subA (readAt (eaZp z s))

/-- `SBC $nn,X` (F5): R161, mode R117. -/
def execSbcZpx (z : Byte) (s : State) : Result := subA (readAt (eaZpx z s))

/-- `SBC $nnnn` (ED): R161, mode R115. -/
def execSbcAbs (a : Word) (s : State) : Result := subA (readAt (eaAbs a s))

/-- `SBC $nnnn,X` (FD): R161, mode R119. -/
def execSbcAbx (a : Word) (s : State) : Result := subA (readAt (eaAbx a s))

/-- `SBC $nnnn,Y` (F9): R161, mode R120. -/
def execSbcAby (a : Word) (s : State) : Result := subA (readAt (eaAby a s))

/-- `SBC ($nn,X)` (E1): R161, mode R122. -/
def execSbcIzx (z : Byte) (s : State) : Result := subA (readAt (eaIzx z s))

/-- `SBC ($nn),Y` (F1): R161, mode R123. -/
def execSbcIzy (z : Byte) (s : State) : Result := subA (readAt (eaIzy z s))

/-- `AND #$nn` (29): R162, mode R114. -/
def execAndImm (v : Byte) (s : State) : Result := andA (immediate v s)

/-- `AND $nn` (25): R162, mode R116. -/
def execAndZp (z : Byte) (s : State) : Result := andA (readAt (eaZp z s))

/-- `AND $nn,X` (35): R162, mode R117. -/
def execAndZpx (z : Byte) (s : State) : Result := andA (readAt (eaZpx z s))

/-- `AND $nnnn` (2D): R162, mode R115. -/
def execAndAbs (a : Word) (s : State) : Result := andA (readAt (eaAbs a s))

/-- `AND $nnnn,X` (3D): R162, mode R119. -/
def execAndAbx (a : Word) (s : State) : Result := andA (readAt (eaAbx a s))

/-- `AND $nnnn,Y` (39): R162, mode R120. -/
def execAndAby (a : Word) (s : State) : Result := andA (readAt (eaAby a s))

/-- `AND ($nn,X)` (21): R162, mode R122. -/
def execAndIzx (z : Byte) (s : State) : Result := andA (readAt (eaIzx z s))

/-- `AND ($nn),Y` (31): R162, mode R123. -/
def execAndIzy (z : Byte) (s : State) : Result := andA (readAt (eaIzy z s))

/-- `ORA #$nn` (09): R163, mode R114. -/
def execOraImm (v : Byte) (s : State) : Result := orA (immediate v s)

/-- `ORA $nn` (05): R163, mode R116. -/
def execOraZp (z : Byte) (s : State) : Result := orA (readAt (eaZp z s))

/-- `ORA $nn,X` (15): R163, mode R117. -/
def execOraZpx (z : Byte) (s : State) : Result := orA (readAt (eaZpx z s))

/-- `ORA $nnnn` (0D): R163, mode R115. -/
def execOraAbs (a : Word) (s : State) : Result := orA (readAt (eaAbs a s))

/-- `ORA $nnnn,X` (1D): R163, mode R119. -/
def execOraAbx (a : Word) (s : State) : Result := orA (readAt (eaAbx a s))

/-- `ORA $nnnn,Y` (19): R163, mode R120. -/
def execOraAby (a : Word) (s : State) : Result := orA (readAt (eaAby a s))

/-- `ORA ($nn,X)` (01): R163, mode R122. -/
def execOraIzx (z : Byte) (s : State) : Result := orA (readAt (eaIzx z s))

/-- `ORA ($nn),Y` (11): R163, mode R123. -/
def execOraIzy (z : Byte) (s : State) : Result := orA (readAt (eaIzy z s))

/-- `EOR #$nn` (49): R164, mode R114. -/
def execEorImm (v : Byte) (s : State) : Result := eorA (immediate v s)

/-- `EOR $nn` (45): R164, mode R116. -/
def execEorZp (z : Byte) (s : State) : Result := eorA (readAt (eaZp z s))

/-- `EOR $nn,X` (55): R164, mode R117. -/
def execEorZpx (z : Byte) (s : State) : Result := eorA (readAt (eaZpx z s))

/-- `EOR $nnnn` (4D): R164, mode R115. -/
def execEorAbs (a : Word) (s : State) : Result := eorA (readAt (eaAbs a s))

/-- `EOR $nnnn,X` (5D): R164, mode R119. -/
def execEorAbx (a : Word) (s : State) : Result := eorA (readAt (eaAbx a s))

/-- `EOR $nnnn,Y` (59): R164, mode R120. -/
def execEorAby (a : Word) (s : State) : Result := eorA (readAt (eaAby a s))

/-- `EOR ($nn,X)` (41): R164, mode R122. -/
def execEorIzx (z : Byte) (s : State) : Result := eorA (readAt (eaIzx z s))

/-- `EOR ($nn),Y` (51): R164, mode R123. -/
def execEorIzy (z : Byte) (s : State) : Result := eorA (readAt (eaIzy z s))

/-- `CMP #$nn` (C9): R165, mode R114. -/
def execCmpImm (v : Byte) (s : State) : Result := compareA (immediate v s)

/-- `CMP $nn` (C5): R165, mode R116. -/
def execCmpZp (z : Byte) (s : State) : Result := compareA (readAt (eaZp z s))

/-- `CMP $nn,X` (D5): R165, mode R117. -/
def execCmpZpx (z : Byte) (s : State) : Result := compareA (readAt (eaZpx z s))

/-- `CMP $nnnn` (CD): R165, mode R115. -/
def execCmpAbs (a : Word) (s : State) : Result := compareA (readAt (eaAbs a s))

/-- `CMP $nnnn,X` (DD): R165, mode R119. -/
def execCmpAbx (a : Word) (s : State) : Result := compareA (readAt (eaAbx a s))

/-- `CMP $nnnn,Y` (D9): R165, mode R120. -/
def execCmpAby (a : Word) (s : State) : Result := compareA (readAt (eaAby a s))

/-- `CMP ($nn,X)` (C1): R165, mode R122. -/
def execCmpIzx (z : Byte) (s : State) : Result := compareA (readAt (eaIzx z s))

/-- `CMP ($nn),Y` (D1): R165, mode R123. -/
def execCmpIzy (z : Byte) (s : State) : Result := compareA (readAt (eaIzy z s))

/-- `CPX #$nn` (E0): R166, mode R114. -/
def execCpxImm (v : Byte) (s : State) : Result := compareX (immediate v s)

/-- `CPX $nn` (E4): R166, mode R116. -/
def execCpxZp (z : Byte) (s : State) : Result := compareX (readAt (eaZp z s))

/-- `CPX $nnnn` (EC): R166, mode R115. -/
def execCpxAbs (a : Word) (s : State) : Result := compareX (readAt (eaAbs a s))

/-- `CPY #$nn` (C0): R167, mode R114. -/
def execCpyImm (v : Byte) (s : State) : Result := compareY (immediate v s)

/-- `CPY $nn` (C4): R167, mode R116. -/
def execCpyZp (z : Byte) (s : State) : Result := compareY (readAt (eaZp z s))

/-- `CPY $nnnn` (CC): R167, mode R115. -/
def execCpyAbs (a : Word) (s : State) : Result := compareY (readAt (eaAbs a s))

/-- `BIT $nn` (24): R168, mode R116. -/
def execBitZp (z : Byte) (s : State) : Result := bitTest (readAt (eaZp z s))

/-- `BIT $nnnn` (2C): R168, mode R115. -/
def execBitAbs (a : Word) (s : State) : Result := bitTest (readAt (eaAbs a s))

/-- `INC $nn` (E6): R169, mode R116. -/
def execIncZp (z : Byte) (s : State) : Result := stepMem incByte (eaZp z s)

/-- `INC $nn,X` (F6): R169, mode R117. -/
def execIncZpx (z : Byte) (s : State) : Result := stepMem incByte (eaZpx z s)

/-- `INC $nnnn` (EE): R169, mode R115. -/
def execIncAbs (a : Word) (s : State) : Result := stepMem incByte (eaAbs a s)

/-- `INC $nnnn,X` (FE): R169, mode R119. -/
def execIncAbx (a : Word) (s : State) : Result := stepMem incByte (eaAbx a s)

/-- `DEC $nn` (C6): R170, mode R116. -/
def execDecZp (z : Byte) (s : State) : Result := stepMem decByte (eaZp z s)

/-- `DEC $nn,X` (D6): R170, mode R117. -/
def execDecZpx (z : Byte) (s : State) : Result := stepMem decByte (eaZpx z s)

/-- `DEC $nnnn` (CE): R170, mode R115. -/
def execDecAbs (a : Word) (s : State) : Result := stepMem decByte (eaAbs a s)

/-- `DEC $nnnn,X` (DE): R170, mode R119. -/
def execDecAbx (a : Word) (s : State) : Result := stepMem decByte (eaAbx a s)

/-- `INX` (E8): R171. -/
def execInx (s : State) : Result := loadX (incByte s.cpu.x, s)

/-- `INY` (C8): R172. -/
def execIny (s : State) : Result := loadY (incByte s.cpu.y, s)

/-- `DEX` (CA): R173. -/
def execDex (s : State) : Result := loadX (decByte s.cpu.x, s)

/-- `DEY` (88): R174. -/
def execDey (s : State) : Result := loadY (decByte s.cpu.y, s)

end Sys2Proof.Machine
end

