-- ==== Sys2Proof/Machine/Control.lean ====
section
/-! DEFINITION. Branch, jump, call and return instructions (43_control_transfer.md R190–R201): one meaning per
opcode, run after the fetch, so `PC` is already the address of the next instruction (R140). -/

namespace Sys2Proof.Machine

/-- `BCC target` (90): R191, mode R124. -/
def execBcc (off : Byte) (s : State) : Result := branchIf (!s.flag .c) off s

/-- `BCS target` (B0): R192, mode R124. -/
def execBcs (off : Byte) (s : State) : Result := branchIf (s.flag .c) off s

/-- `BEQ target` (F0): R193, mode R124. -/
def execBeq (off : Byte) (s : State) : Result := branchIf (s.flag .z) off s

/-- `BNE target` (D0): R194, mode R124. -/
def execBne (off : Byte) (s : State) : Result := branchIf (!s.flag .z) off s

/-- `BMI target` (30): R195, mode R124. -/
def execBmi (off : Byte) (s : State) : Result := branchIf (s.flag .n) off s

/-- `BPL target` (10): R196, mode R124. -/
def execBpl (off : Byte) (s : State) : Result := branchIf (!s.flag .n) off s

/-- `BVC target` (50): R197, mode R124. -/
def execBvc (off : Byte) (s : State) : Result := branchIf (!s.flag .v) off s

/-- `BVS target` (70): R198, mode R124. -/
def execBvs (off : Byte) (s : State) : Result := branchIf (s.flag .v) off s

/-- `JMP $nnnn` (4C): R199, mode R115. -/
def execJmpAbs (a : Word) (s : State) : Result := jumpTo (eaAbs a s)

/-- `JMP ($nnnn)` (6C): R199, mode R121. -/
def execJmpInd (a : Word) (s : State) : Result := jumpTo (eaInd a s)

/-- `JSR $nnnn` (20): R200, mode R115; both operand bytes are fetched before the pushes. -/
def execJsr (a : Word) (s : State) : Result := callTo (eaAbs a s)

/-- `RTS` (60): R201; the pulled word plus 1. -/
def execRts (s : State) : Result :=
  let r := pullWord s
  .next (r.2.setPc (r.1 + 1))

end Sys2Proof.Machine
end

