-- ==== Sys2Proof/Machine/LoadStore.lean ====
section
/-! DEFINITION. Load, store and register-transfer instructions (40_load_store_transfer.md R140–R152): one meaning per
opcode, run after the fetch, so `PC` is already the address of the next instruction (R140). -/

namespace Sys2Proof.Machine

/-- `LDA #$nn` (A9): R141, mode R114. -/
def execLdaImm (v : Byte) (s : State) : Result := loadA (immediate v s)

/-- `LDA $nn` (A5): R141, mode R116. -/
def execLdaZp (z : Byte) (s : State) : Result := loadA (readAt (eaZp z s))

/-- `LDA $nn,X` (B5): R141, mode R117. -/
def execLdaZpx (z : Byte) (s : State) : Result := loadA (readAt (eaZpx z s))

/-- `LDA $nnnn` (AD): R141, mode R115. -/
def execLdaAbs (a : Word) (s : State) : Result := loadA (readAt (eaAbs a s))

/-- `LDA $nnnn,X` (BD): R141, mode R119. -/
def execLdaAbx (a : Word) (s : State) : Result := loadA (readAt (eaAbx a s))

/-- `LDA $nnnn,Y` (B9): R141, mode R120. -/
def execLdaAby (a : Word) (s : State) : Result := loadA (readAt (eaAby a s))

/-- `LDA ($nn,X)` (A1): R141, mode R122. -/
def execLdaIzx (z : Byte) (s : State) : Result := loadA (readAt (eaIzx z s))

/-- `LDA ($nn),Y` (B1): R141, mode R123. -/
def execLdaIzy (z : Byte) (s : State) : Result := loadA (readAt (eaIzy z s))

/-- `LDX #$nn` (A2): R142, mode R114. -/
def execLdxImm (v : Byte) (s : State) : Result := loadX (immediate v s)

/-- `LDX $nn` (A6): R142, mode R116. -/
def execLdxZp (z : Byte) (s : State) : Result := loadX (readAt (eaZp z s))

/-- `LDX $nn,Y` (B6): R142, mode R118. -/
def execLdxZpy (z : Byte) (s : State) : Result := loadX (readAt (eaZpy z s))

/-- `LDX $nnnn` (AE): R142, mode R115. -/
def execLdxAbs (a : Word) (s : State) : Result := loadX (readAt (eaAbs a s))

/-- `LDX $nnnn,Y` (BE): R142, mode R120. -/
def execLdxAby (a : Word) (s : State) : Result := loadX (readAt (eaAby a s))

/-- `LDY #$nn` (A0): R143, mode R114. -/
def execLdyImm (v : Byte) (s : State) : Result := loadY (immediate v s)

/-- `LDY $nn` (A4): R143, mode R116. -/
def execLdyZp (z : Byte) (s : State) : Result := loadY (readAt (eaZp z s))

/-- `LDY $nn,X` (B4): R143, mode R117. -/
def execLdyZpx (z : Byte) (s : State) : Result := loadY (readAt (eaZpx z s))

/-- `LDY $nnnn` (AC): R143, mode R115. -/
def execLdyAbs (a : Word) (s : State) : Result := loadY (readAt (eaAbs a s))

/-- `LDY $nnnn,X` (BC): R143, mode R119. -/
def execLdyAbx (a : Word) (s : State) : Result := loadY (readAt (eaAbx a s))

/-- `STA $nn` (85): R144, mode R116. -/
def execStaZp (z : Byte) (s : State) : Result := storeA (eaZp z s)

/-- `STA $nn,X` (95): R144, mode R117. -/
def execStaZpx (z : Byte) (s : State) : Result := storeA (eaZpx z s)

/-- `STA $nnnn` (8D): R144, mode R115. -/
def execStaAbs (a : Word) (s : State) : Result := storeA (eaAbs a s)

/-- `STA $nnnn,X` (9D): R144, mode R119. -/
def execStaAbx (a : Word) (s : State) : Result := storeA (eaAbx a s)

/-- `STA $nnnn,Y` (99): R144, mode R120. -/
def execStaAby (a : Word) (s : State) : Result := storeA (eaAby a s)

/-- `STA ($nn,X)` (81): R144, mode R122. -/
def execStaIzx (z : Byte) (s : State) : Result := storeA (eaIzx z s)

/-- `STA ($nn),Y` (91): R144, mode R123. -/
def execStaIzy (z : Byte) (s : State) : Result := storeA (eaIzy z s)

/-- `STX $nn` (86): R145, mode R116. -/
def execStxZp (z : Byte) (s : State) : Result := storeX (eaZp z s)

/-- `STX $nn,Y` (96): R145, mode R118. -/
def execStxZpy (z : Byte) (s : State) : Result := storeX (eaZpy z s)

/-- `STX $nnnn` (8E): R145, mode R115. -/
def execStxAbs (a : Word) (s : State) : Result := storeX (eaAbs a s)

/-- `STY $nn` (84): R146, mode R116. -/
def execStyZp (z : Byte) (s : State) : Result := storeY (eaZp z s)

/-- `STY $nn,X` (94): R146, mode R117. -/
def execStyZpx (z : Byte) (s : State) : Result := storeY (eaZpx z s)

/-- `STY $nnnn` (8C): R146, mode R115. -/
def execStyAbs (a : Word) (s : State) : Result := storeY (eaAbs a s)

/-- `TAX` (AA): R147. -/
def execTax (s : State) : Result := loadX (s.cpu.a, s)

/-- `TAY` (A8): R148. -/
def execTay (s : State) : Result := loadY (s.cpu.a, s)

/-- `TXA` (8A): R149. -/
def execTxa (s : State) : Result := loadA (s.cpu.x, s)

/-- `TYA` (98): R150. -/
def execTya (s : State) : Result := loadA (s.cpu.y, s)

/-- `TSX` (BA): R151. -/
def execTsx (s : State) : Result := loadX (s.cpu.s, s)

/-- `TXS` (9A): R152; no flag changes. -/
def execTxs (s : State) : Result := .next (s.setS s.cpu.x)

end Sys2Proof.Machine
end

