-- ==== Sys2Proof/Machine/Shift.lean ====
section
/-! DEFINITION. Shift and rotate instructions (42_shift_rotate.md R180–R183): one meaning per
opcode, run after the fetch, so `PC` is already the address of the next instruction (R140). -/

namespace Sys2Proof.Machine

/-- `ASL A` (0A): R180, mode R113. -/
def execAslAcc (s : State) : Result := shiftA shiftLeft s

/-- `ASL $nn` (06): R180, mode R116. -/
def execAslZp (z : Byte) (s : State) : Result := shiftMem shiftLeft (eaZp z s)

/-- `ASL $nn,X` (16): R180, mode R117. -/
def execAslZpx (z : Byte) (s : State) : Result := shiftMem shiftLeft (eaZpx z s)

/-- `ASL $nnnn` (0E): R180, mode R115. -/
def execAslAbs (a : Word) (s : State) : Result := shiftMem shiftLeft (eaAbs a s)

/-- `ASL $nnnn,X` (1E): R180, mode R119. -/
def execAslAbx (a : Word) (s : State) : Result := shiftMem shiftLeft (eaAbx a s)

/-- `LSR A` (4A): R181, mode R113. -/
def execLsrAcc (s : State) : Result := shiftA shiftRight s

/-- `LSR $nn` (46): R181, mode R116. -/
def execLsrZp (z : Byte) (s : State) : Result := shiftMem shiftRight (eaZp z s)

/-- `LSR $nn,X` (56): R181, mode R117. -/
def execLsrZpx (z : Byte) (s : State) : Result := shiftMem shiftRight (eaZpx z s)

/-- `LSR $nnnn` (4E): R181, mode R115. -/
def execLsrAbs (a : Word) (s : State) : Result := shiftMem shiftRight (eaAbs a s)

/-- `LSR $nnnn,X` (5E): R181, mode R119. -/
def execLsrAbx (a : Word) (s : State) : Result := shiftMem shiftRight (eaAbx a s)

/-- `ROL A` (2A): R182, mode R113. -/
def execRolAcc (s : State) : Result := shiftA rotateLeft s

/-- `ROL $nn` (26): R182, mode R116. -/
def execRolZp (z : Byte) (s : State) : Result := shiftMem rotateLeft (eaZp z s)

/-- `ROL $nn,X` (36): R182, mode R117. -/
def execRolZpx (z : Byte) (s : State) : Result := shiftMem rotateLeft (eaZpx z s)

/-- `ROL $nnnn` (2E): R182, mode R115. -/
def execRolAbs (a : Word) (s : State) : Result := shiftMem rotateLeft (eaAbs a s)

/-- `ROL $nnnn,X` (3E): R182, mode R119. -/
def execRolAbx (a : Word) (s : State) : Result := shiftMem rotateLeft (eaAbx a s)

/-- `ROR A` (6A): R183, mode R113. -/
def execRorAcc (s : State) : Result := shiftA rotateRight s

/-- `ROR $nn` (66): R183, mode R116. -/
def execRorZp (z : Byte) (s : State) : Result := shiftMem rotateRight (eaZp z s)

/-- `ROR $nn,X` (76): R183, mode R117. -/
def execRorZpx (z : Byte) (s : State) : Result := shiftMem rotateRight (eaZpx z s)

/-- `ROR $nnnn` (6E): R183, mode R115. -/
def execRorAbs (a : Word) (s : State) : Result := shiftMem rotateRight (eaAbs a s)

/-- `ROR $nnnn,X` (7E): R183, mode R119. -/
def execRorAbx (a : Word) (s : State) : Result := shiftMem rotateRight (eaAbx a s)

end Sys2Proof.Machine
end

