-- ==== Sys2Proof/Machine/System.lean ====
section
/-! DEFINITION. Stack, flag and system instructions (44_stack_flags_system.md R210–R223): one meaning per
opcode, run after the fetch, so `PC` is already the address of the next instruction (R140). -/

namespace Sys2Proof.Machine

/-- `PHA` (48): R210. -/
def execPha (s : State) : Result := .next (push8 s.cpu.a s)

/-- `PHP` (08): R211; bits 4 and 5 set in the pushed byte. -/
def execPhp (s : State) : Result := .next (push8 (pushedByProgram s.cpu.p) s)

/-- `PLA` (68): R212. -/
def execPla (s : State) : Result := loadA (pull8 s)

/-- `PLP` (28): R213; bits 4 and 5 of the pulled byte are discarded. -/
def execPlp (s : State) : Result :=
  let r := pull8 s
  .next (r.2.setP (pulledStatus r.1))

/-- `CLC` (18): R214. -/
def execClc (s : State) : Result := .next (s.setFlag .c false)

/-- `SEC` (38): R215. -/
def execSec (s : State) : Result := .next (s.setFlag .c true)

/-- `CLI` (58): R216; no interrupt becomes deliverable. -/
def execCli (s : State) : Result := .next (s.setFlag .i false)

/-- `SEI` (78): R217. -/
def execSei (s : State) : Result := .next (s.setFlag .i true)

/-- `CLD` (D8): R218; no effect on arithmetic. -/
def execCld (s : State) : Result := .next (s.setFlag .d false)

/-- `SED` (F8): R219; no effect on arithmetic. -/
def execSed (s : State) : Result := .next (s.setFlag .d true)

/-- `CLV` (B8): R220. -/
def execClv (s : State) : Result := .next (s.setFlag .v false)

/-- `NOP` (EA): R221; the opcode fetch has advanced `PC`. -/
def execNop (s : State) : Result := .next s

/-- `BRK` (00): R222; the byte after the opcode is skipped by the return address and never fetched; the pushed byte has the old I. -/
def execBrk (s : State) : Result :=
  .next (enterHandler (s.cpu.pc + 1) vecBrk (pushedByProgram s.cpu.p) (withFlag s.cpu.p .i true) s)

/-- `RTI` (40): R223; bits 4 and 5 of the pulled byte are discarded; no +1. -/
def execRti (s : State) : Result := .next (returnFromHandler s)

end Sys2Proof.Machine
end

