-- ==== Sys2Proof/Syntax.lean ====
section
/-! DEFINITION. The instruction set as data: one constructor per row of spec/opcode_table.json (30_encoding.md R125),
with the operand byte or word the row's format carries (R110). -/

namespace Sys2Proof

/-- The 151 defined instructions. The name is the mnemonic and its addressing mode; a mnemonic with one mode has no
suffix, and `Acc` is the implied mode of the shifts, whose operand is `A` (R113). `v` is an immediate byte, `z` a
zero-page byte, `a` a 16-bit address, `off` a branch offset. -/
inductive Instr where
  -- Load, store and register transfer (40_load_store_transfer.md)
  | ldaImm (v : Byte)
  | ldaZp (z : Byte)
  | ldaZpx (z : Byte)
  | ldaAbs (a : Word)
  | ldaAbx (a : Word)
  | ldaAby (a : Word)
  | ldaIzx (z : Byte)
  | ldaIzy (z : Byte)
  | ldxImm (v : Byte)
  | ldxZp (z : Byte)
  | ldxZpy (z : Byte)
  | ldxAbs (a : Word)
  | ldxAby (a : Word)
  | ldyImm (v : Byte)
  | ldyZp (z : Byte)
  | ldyZpx (z : Byte)
  | ldyAbs (a : Word)
  | ldyAbx (a : Word)
  | staZp (z : Byte)
  | staZpx (z : Byte)
  | staAbs (a : Word)
  | staAbx (a : Word)
  | staAby (a : Word)
  | staIzx (z : Byte)
  | staIzy (z : Byte)
  | stxZp (z : Byte)
  | stxZpy (z : Byte)
  | stxAbs (a : Word)
  | styZp (z : Byte)
  | styZpx (z : Byte)
  | styAbs (a : Word)
  | tax
  | tay
  | txa
  | tya
  | tsx
  | txs
  -- Arithmetic, logic, compare, bit test, increment, decrement (41_arithmetic_logic.md)
  | adcImm (v : Byte)
  | adcZp (z : Byte)
  | adcZpx (z : Byte)
  | adcAbs (a : Word)
  | adcAbx (a : Word)
  | adcAby (a : Word)
  | adcIzx (z : Byte)
  | adcIzy (z : Byte)
  | sbcImm (v : Byte)
  | sbcZp (z : Byte)
  | sbcZpx (z : Byte)
  | sbcAbs (a : Word)
  | sbcAbx (a : Word)
  | sbcAby (a : Word)
  | sbcIzx (z : Byte)
  | sbcIzy (z : Byte)
  | andImm (v : Byte)
  | andZp (z : Byte)
  | andZpx (z : Byte)
  | andAbs (a : Word)
  | andAbx (a : Word)
  | andAby (a : Word)
  | andIzx (z : Byte)
  | andIzy (z : Byte)
  | oraImm (v : Byte)
  | oraZp (z : Byte)
  | oraZpx (z : Byte)
  | oraAbs (a : Word)
  | oraAbx (a : Word)
  | oraAby (a : Word)
  | oraIzx (z : Byte)
  | oraIzy (z : Byte)
  | eorImm (v : Byte)
  | eorZp (z : Byte)
  | eorZpx (z : Byte)
  | eorAbs (a : Word)
  | eorAbx (a : Word)
  | eorAby (a : Word)
  | eorIzx (z : Byte)
  | eorIzy (z : Byte)
  | cmpImm (v : Byte)
  | cmpZp (z : Byte)
  | cmpZpx (z : Byte)
  | cmpAbs (a : Word)
  | cmpAbx (a : Word)
  | cmpAby (a : Word)
  | cmpIzx (z : Byte)
  | cmpIzy (z : Byte)
  | cpxImm (v : Byte)
  | cpxZp (z : Byte)
  | cpxAbs (a : Word)
  | cpyImm (v : Byte)
  | cpyZp (z : Byte)
  | cpyAbs (a : Word)
  | bitZp (z : Byte)
  | bitAbs (a : Word)
  | incZp (z : Byte)
  | incZpx (z : Byte)
  | incAbs (a : Word)
  | incAbx (a : Word)
  | decZp (z : Byte)
  | decZpx (z : Byte)
  | decAbs (a : Word)
  | decAbx (a : Word)
  | inx
  | iny
  | dex
  | dey
  -- Shift and rotate (42_shift_rotate.md)
  | aslAcc
  | aslZp (z : Byte)
  | aslZpx (z : Byte)
  | aslAbs (a : Word)
  | aslAbx (a : Word)
  | lsrAcc
  | lsrZp (z : Byte)
  | lsrZpx (z : Byte)
  | lsrAbs (a : Word)
  | lsrAbx (a : Word)
  | rolAcc
  | rolZp (z : Byte)
  | rolZpx (z : Byte)
  | rolAbs (a : Word)
  | rolAbx (a : Word)
  | rorAcc
  | rorZp (z : Byte)
  | rorZpx (z : Byte)
  | rorAbs (a : Word)
  | rorAbx (a : Word)
  -- Branch, jump, call and return (43_control_transfer.md)
  | bcc (off : Byte)
  | bcs (off : Byte)
  | beq (off : Byte)
  | bne (off : Byte)
  | bmi (off : Byte)
  | bpl (off : Byte)
  | bvc (off : Byte)
  | bvs (off : Byte)
  | jmpAbs (a : Word)
  | jmpInd (a : Word)
  | jsr (a : Word)
  | rts
  -- Stack, flag and system (44_stack_flags_system.md)
  | pha
  | php
  | pla
  | plp
  | clc
  | sec
  | cli
  | sei
  | cld
  | sed
  | clv
  | nop
  | brk
  | rti
  deriving DecidableEq, Repr

/-- The 56 mnemonics (R125). -/
inductive Mnemonic where
  | lda | ldx | ldy | sta | stx | sty | tax | tay | txa | tya | tsx | txs
  | adc | sbc | and | ora | eor | cmp | cpx | cpy | bit | inc | dec | inx | iny | dex | dey
  | asl | lsr | rol | ror
  | bcc | bcs | beq | bne | bmi | bpl | bvc | bvs | jmp | jsr | rts
  | pha | php | pla | plp | clc | sec | cli | sei | cld | sed | clv | nop | brk | rti
  deriving DecidableEq, Repr

/-- The twelve addressing modes (30_encoding.md section 2, R113–R124). -/
inductive Mode where
  | imp | imm | zp | zpx | zpy | abs | abx | aby | ind | izx | izy | rel
  deriving DecidableEq, Repr

/-- How many operand bytes follow the opcode in each mode (R110). -/
def Mode.operandBytes : Mode → Nat
  | .imp => 0
  | .imm | .zp | .zpx | .zpy | .izx | .izy | .rel => 1
  | .abs | .abx | .aby | .ind => 2

/-- The length of an instruction in each mode (R110). -/
def Mode.length (m : Mode) : Nat := 1 + m.operandBytes

/-- The mnemonic of an instruction. -/
def Instr.mnemonic : Instr → Mnemonic
  | .ldaImm _ | .ldaZp _ | .ldaZpx _ | .ldaAbs _ | .ldaAbx _ | .ldaAby _ | .ldaIzx _ | .ldaIzy _ => .lda
  | .ldxImm _ | .ldxZp _ | .ldxZpy _ | .ldxAbs _ | .ldxAby _ => .ldx
  | .ldyImm _ | .ldyZp _ | .ldyZpx _ | .ldyAbs _ | .ldyAbx _ => .ldy
  | .staZp _ | .staZpx _ | .staAbs _ | .staAbx _ | .staAby _ | .staIzx _ | .staIzy _ => .sta
  | .stxZp _ | .stxZpy _ | .stxAbs _ => .stx
  | .styZp _ | .styZpx _ | .styAbs _ => .sty
  | .tax => .tax
  | .tay => .tay
  | .txa => .txa
  | .tya => .tya
  | .tsx => .tsx
  | .txs => .txs
  | .adcImm _ | .adcZp _ | .adcZpx _ | .adcAbs _ | .adcAbx _ | .adcAby _ | .adcIzx _ | .adcIzy _ => .adc
  | .sbcImm _ | .sbcZp _ | .sbcZpx _ | .sbcAbs _ | .sbcAbx _ | .sbcAby _ | .sbcIzx _ | .sbcIzy _ => .sbc
  | .andImm _ | .andZp _ | .andZpx _ | .andAbs _ | .andAbx _ | .andAby _ | .andIzx _ | .andIzy _ => .and
  | .oraImm _ | .oraZp _ | .oraZpx _ | .oraAbs _ | .oraAbx _ | .oraAby _ | .oraIzx _ | .oraIzy _ => .ora
  | .eorImm _ | .eorZp _ | .eorZpx _ | .eorAbs _ | .eorAbx _ | .eorAby _ | .eorIzx _ | .eorIzy _ => .eor
  | .cmpImm _ | .cmpZp _ | .cmpZpx _ | .cmpAbs _ | .cmpAbx _ | .cmpAby _ | .cmpIzx _ | .cmpIzy _ => .cmp
  | .cpxImm _ | .cpxZp _ | .cpxAbs _ => .cpx
  | .cpyImm _ | .cpyZp _ | .cpyAbs _ => .cpy
  | .bitZp _ | .bitAbs _ => .bit
  | .incZp _ | .incZpx _ | .incAbs _ | .incAbx _ => .inc
  | .decZp _ | .decZpx _ | .decAbs _ | .decAbx _ => .dec
  | .inx => .inx
  | .iny => .iny
  | .dex => .dex
  | .dey => .dey
  | .aslAcc | .aslZp _ | .aslZpx _ | .aslAbs _ | .aslAbx _ => .asl
  | .lsrAcc | .lsrZp _ | .lsrZpx _ | .lsrAbs _ | .lsrAbx _ => .lsr
  | .rolAcc | .rolZp _ | .rolZpx _ | .rolAbs _ | .rolAbx _ => .rol
  | .rorAcc | .rorZp _ | .rorZpx _ | .rorAbs _ | .rorAbx _ => .ror
  | .bcc _ => .bcc
  | .bcs _ => .bcs
  | .beq _ => .beq
  | .bne _ => .bne
  | .bmi _ => .bmi
  | .bpl _ => .bpl
  | .bvc _ => .bvc
  | .bvs _ => .bvs
  | .jmpAbs _ | .jmpInd _ => .jmp
  | .jsr _ => .jsr
  | .rts => .rts
  | .pha => .pha
  | .php => .php
  | .pla => .pla
  | .plp => .plp
  | .clc => .clc
  | .sec => .sec
  | .cli => .cli
  | .sei => .sei
  | .cld => .cld
  | .sed => .sed
  | .clv => .clv
  | .nop => .nop
  | .brk => .brk
  | .rti => .rti

/-- The addressing mode of an instruction. -/
def Instr.mode : Instr → Mode
  | .tax | .tay | .txa | .tya | .tsx | .txs | .inx | .iny | .dex | .dey | .aslAcc | .lsrAcc | .rolAcc
    | .rorAcc | .rts | .pha | .php | .pla | .plp | .clc | .sec | .cli | .sei | .cld | .sed | .clv | .nop
    | .brk | .rti => .imp
  | .ldaImm _ | .ldxImm _ | .ldyImm _ | .adcImm _ | .sbcImm _ | .andImm _ | .oraImm _ | .eorImm _ | .cmpImm _
    | .cpxImm _ | .cpyImm _ => .imm
  | .ldaZp _ | .ldxZp _ | .ldyZp _ | .staZp _ | .stxZp _ | .styZp _ | .adcZp _ | .sbcZp _ | .andZp _
    | .oraZp _ | .eorZp _ | .cmpZp _ | .cpxZp _ | .cpyZp _ | .bitZp _ | .incZp _ | .decZp _ | .aslZp _
    | .lsrZp _ | .rolZp _ | .rorZp _ => .zp
  | .ldaZpx _ | .ldyZpx _ | .staZpx _ | .styZpx _ | .adcZpx _ | .sbcZpx _ | .andZpx _ | .oraZpx _ | .eorZpx _
    | .cmpZpx _ | .incZpx _ | .decZpx _ | .aslZpx _ | .lsrZpx _ | .rolZpx _ | .rorZpx _ => .zpx
  | .ldxZpy _ | .stxZpy _ => .zpy
  | .ldaAbs _ | .ldxAbs _ | .ldyAbs _ | .staAbs _ | .stxAbs _ | .styAbs _ | .adcAbs _ | .sbcAbs _ | .andAbs _
    | .oraAbs _ | .eorAbs _ | .cmpAbs _ | .cpxAbs _ | .cpyAbs _ | .bitAbs _ | .incAbs _ | .decAbs _
    | .aslAbs _ | .lsrAbs _ | .rolAbs _ | .rorAbs _ | .jmpAbs _ | .jsr _ => .abs
  | .ldaAbx _ | .ldyAbx _ | .staAbx _ | .adcAbx _ | .sbcAbx _ | .andAbx _ | .oraAbx _ | .eorAbx _ | .cmpAbx _
    | .incAbx _ | .decAbx _ | .aslAbx _ | .lsrAbx _ | .rolAbx _ | .rorAbx _ => .abx
  | .ldaAby _ | .ldxAby _ | .staAby _ | .adcAby _ | .sbcAby _ | .andAby _ | .oraAby _ | .eorAby _ | .cmpAby _ => .aby
  | .jmpInd _ => .ind
  | .ldaIzx _ | .staIzx _ | .adcIzx _ | .sbcIzx _ | .andIzx _ | .oraIzx _ | .eorIzx _ | .cmpIzx _ => .izx
  | .ldaIzy _ | .staIzy _ | .adcIzy _ | .sbcIzy _ | .andIzy _ | .oraIzy _ | .eorIzy _ | .cmpIzy _ => .izy
  | .bcc _ | .bcs _ | .beq _ | .bne _ | .bmi _ | .bpl _ | .bvc _ | .bvs _ => .rel

/-- The length of an instruction in bytes. -/
def Instr.length (i : Instr) : Nat := i.mode.length

end Sys2Proof
end

