-- ==== Sys2Proof/WellFormed.lean ====
section
/-! DEFINITION. What is well formed: which (mnemonic, mode) pairs exist (30_encoding.md R125, second table), how many
operand bytes each mode takes (R110), and which opcode bytes are undefined (R126, as that rule lists them). -/

namespace Sys2Proof

/-- The modes each mnemonic has (R125, the table by mnemonic). -/
def Mnemonic.modes : Mnemonic → List Mode
  | .lda | .adc | .sbc | .and | .ora | .eor | .cmp => [.imm, .zp, .zpx, .abs, .abx, .aby, .izx, .izy]
  | .ldx => [.imm, .zp, .zpy, .abs, .aby]
  | .ldy => [.imm, .zp, .zpx, .abs, .abx]
  | .sta => [.zp, .zpx, .abs, .abx, .aby, .izx, .izy]
  | .stx => [.zp, .zpy, .abs]
  | .sty => [.zp, .zpx, .abs]
  | .tax | .tay | .txa | .tya | .tsx | .txs | .inx | .iny | .dex | .dey | .rts | .pha | .php | .pla
    | .plp | .clc | .sec | .cli | .sei | .cld | .sed | .clv | .nop | .brk | .rti => [.imp]
  | .cpx | .cpy => [.imm, .zp, .abs]
  | .bit => [.zp, .abs]
  | .inc | .dec => [.zp, .zpx, .abs, .abx]
  | .asl | .lsr | .rol | .ror => [.imp, .zp, .zpx, .abs, .abx]
  | .bcc | .bcs | .beq | .bne | .bmi | .bpl | .bvc | .bvs => [.rel]
  | .jmp => [.abs, .ind]
  | .jsr => [.abs]

/-- An instruction as an assembler line gives it: a mnemonic, a mode and the operand bytes in memory order. -/
structure Line where
  mnemonic : Mnemonic
  mode : Mode
  operands : List Byte
  deriving DecidableEq, Repr

/-- CHECK 1: the mnemonic has the mode (R125). -/
def Line.modeLegal (l : Line) : Bool := l.mnemonic.modes.contains l.mode

/-- CHECK 2: the line has as many operand bytes as its mode takes (R110). -/
def Line.operandsFit (l : Line) : Bool := l.operands.length == l.mode.operandBytes

/-- A line that some defined instruction encodes. -/
def Line.wellFormed (l : Line) : Bool := l.modeLegal && l.operandsFit

/-- An instruction is well formed when its (mnemonic, mode) pair is in the table (R125). The types of the operands
leave no other ill-formed `Instr`: every operand byte and word is allowed (R110). Ill-formed lines and undefined
opcode bytes exist and are refused by the checks here. -/
def Instr.wellFormed (i : Instr) : Bool := i.mnemonic.modes.contains i.mode


/-- The third list of R126: the undefined bytes whose low nibble is none of 2, 3, 7, B, F. -/
def undefinedOthers : List Byte :=
  [0x04, 0x0C, 0x14, 0x1A, 0x1C, 0x34, 0x3A, 0x3C, 0x44, 0x54, 0x5A, 0x5C, 0x64] ++
  [0x74, 0x7A, 0x7C, 0x80, 0x89, 0x9C, 0x9E, 0xD4, 0xDA, 0xDC, 0xF4, 0xFA, 0xFC]

/-- CHECK 3: the opcode byte is one of the 105 undefined ones, as R126 lists them. -/
def undefinedOpcode (op : Byte) : Bool :=
  let low := op.toNat % 16
  low == 3 || low == 7 || low == 0xB || low == 0xF || (low == 2 && op != 0xA2) || undefinedOthers.contains op

end Sys2Proof
end

