-- ==== Sys2Proof/Decode.lean ====
section
/-! DEFINITION. The decoder, total on any bytes and rejecting by name, and after it the encoder
(30_encoding.md R110, R125, R126). -/

namespace Sys2Proof

open Sys2Proof.Machine (wordOf loByte hiByte)

/-- What an opcode byte starts: an instruction with no operand byte, with one, or with two (R110). -/
inductive Form where
  | implied (i : Instr)
  | byteOperand (make : Byte → Instr)
  | wordOperand (make : Word → Instr)

/-! `OPTABLE` (R125), one row of the matrix a definition; a byte that stands in none of them is the sentinel. -/

def opRow0 : List (Byte × Form) :=
  [(0x00, .implied .brk), (0x01, .byteOperand .oraIzx), (0x05, .byteOperand .oraZp),
   (0x06, .byteOperand .aslZp), (0x08, .implied .php), (0x09, .byteOperand .oraImm), (0x0A, .implied .aslAcc),
   (0x0D, .wordOperand .oraAbs), (0x0E, .wordOperand .aslAbs)]

def opRow1 : List (Byte × Form) :=
  [(0x10, .byteOperand .bpl), (0x11, .byteOperand .oraIzy), (0x15, .byteOperand .oraZpx),
   (0x16, .byteOperand .aslZpx), (0x18, .implied .clc), (0x19, .wordOperand .oraAby),
   (0x1D, .wordOperand .oraAbx), (0x1E, .wordOperand .aslAbx)]

def opRow2 : List (Byte × Form) :=
  [(0x20, .wordOperand .jsr), (0x21, .byteOperand .andIzx), (0x24, .byteOperand .bitZp),
   (0x25, .byteOperand .andZp), (0x26, .byteOperand .rolZp), (0x28, .implied .plp),
   (0x29, .byteOperand .andImm), (0x2A, .implied .rolAcc), (0x2C, .wordOperand .bitAbs),
   (0x2D, .wordOperand .andAbs), (0x2E, .wordOperand .rolAbs)]

def opRow3 : List (Byte × Form) :=
  [(0x30, .byteOperand .bmi), (0x31, .byteOperand .andIzy), (0x35, .byteOperand .andZpx),
   (0x36, .byteOperand .rolZpx), (0x38, .implied .sec), (0x39, .wordOperand .andAby),
   (0x3D, .wordOperand .andAbx), (0x3E, .wordOperand .rolAbx)]

def opRow4 : List (Byte × Form) :=
  [(0x40, .implied .rti), (0x41, .byteOperand .eorIzx), (0x45, .byteOperand .eorZp),
   (0x46, .byteOperand .lsrZp), (0x48, .implied .pha), (0x49, .byteOperand .eorImm), (0x4A, .implied .lsrAcc),
   (0x4C, .wordOperand .jmpAbs), (0x4D, .wordOperand .eorAbs), (0x4E, .wordOperand .lsrAbs)]

def opRow5 : List (Byte × Form) :=
  [(0x50, .byteOperand .bvc), (0x51, .byteOperand .eorIzy), (0x55, .byteOperand .eorZpx),
   (0x56, .byteOperand .lsrZpx), (0x58, .implied .cli), (0x59, .wordOperand .eorAby),
   (0x5D, .wordOperand .eorAbx), (0x5E, .wordOperand .lsrAbx)]

def opRow6 : List (Byte × Form) :=
  [(0x60, .implied .rts), (0x61, .byteOperand .adcIzx), (0x65, .byteOperand .adcZp),
   (0x66, .byteOperand .rorZp), (0x68, .implied .pla), (0x69, .byteOperand .adcImm), (0x6A, .implied .rorAcc),
   (0x6C, .wordOperand .jmpInd), (0x6D, .wordOperand .adcAbs), (0x6E, .wordOperand .rorAbs)]

def opRow7 : List (Byte × Form) :=
  [(0x70, .byteOperand .bvs), (0x71, .byteOperand .adcIzy), (0x75, .byteOperand .adcZpx),
   (0x76, .byteOperand .rorZpx), (0x78, .implied .sei), (0x79, .wordOperand .adcAby),
   (0x7D, .wordOperand .adcAbx), (0x7E, .wordOperand .rorAbx)]

def opRow8 : List (Byte × Form) :=
  [(0x81, .byteOperand .staIzx), (0x84, .byteOperand .styZp), (0x85, .byteOperand .staZp),
   (0x86, .byteOperand .stxZp), (0x88, .implied .dey), (0x8A, .implied .txa), (0x8C, .wordOperand .styAbs),
   (0x8D, .wordOperand .staAbs), (0x8E, .wordOperand .stxAbs)]

def opRow9 : List (Byte × Form) :=
  [(0x90, .byteOperand .bcc), (0x91, .byteOperand .staIzy), (0x94, .byteOperand .styZpx),
   (0x95, .byteOperand .staZpx), (0x96, .byteOperand .stxZpy), (0x98, .implied .tya),
   (0x99, .wordOperand .staAby), (0x9A, .implied .txs), (0x9D, .wordOperand .staAbx)]

def opRowA : List (Byte × Form) :=
  [(0xA0, .byteOperand .ldyImm), (0xA1, .byteOperand .ldaIzx), (0xA2, .byteOperand .ldxImm),
   (0xA4, .byteOperand .ldyZp), (0xA5, .byteOperand .ldaZp), (0xA6, .byteOperand .ldxZp), (0xA8, .implied .tay),
   (0xA9, .byteOperand .ldaImm), (0xAA, .implied .tax), (0xAC, .wordOperand .ldyAbs),
   (0xAD, .wordOperand .ldaAbs), (0xAE, .wordOperand .ldxAbs)]

def opRowB : List (Byte × Form) :=
  [(0xB0, .byteOperand .bcs), (0xB1, .byteOperand .ldaIzy), (0xB4, .byteOperand .ldyZpx),
   (0xB5, .byteOperand .ldaZpx), (0xB6, .byteOperand .ldxZpy), (0xB8, .implied .clv),
   (0xB9, .wordOperand .ldaAby), (0xBA, .implied .tsx), (0xBC, .wordOperand .ldyAbx),
   (0xBD, .wordOperand .ldaAbx), (0xBE, .wordOperand .ldxAby)]

def opRowC : List (Byte × Form) :=
  [(0xC0, .byteOperand .cpyImm), (0xC1, .byteOperand .cmpIzx), (0xC4, .byteOperand .cpyZp),
   (0xC5, .byteOperand .cmpZp), (0xC6, .byteOperand .decZp), (0xC8, .implied .iny),
   (0xC9, .byteOperand .cmpImm), (0xCA, .implied .dex), (0xCC, .wordOperand .cpyAbs),
   (0xCD, .wordOperand .cmpAbs), (0xCE, .wordOperand .decAbs)]

def opRowD : List (Byte × Form) :=
  [(0xD0, .byteOperand .bne), (0xD1, .byteOperand .cmpIzy), (0xD5, .byteOperand .cmpZpx),
   (0xD6, .byteOperand .decZpx), (0xD8, .implied .cld), (0xD9, .wordOperand .cmpAby),
   (0xDD, .wordOperand .cmpAbx), (0xDE, .wordOperand .decAbx)]

def opRowE : List (Byte × Form) :=
  [(0xE0, .byteOperand .cpxImm), (0xE1, .byteOperand .sbcIzx), (0xE4, .byteOperand .cpxZp),
   (0xE5, .byteOperand .sbcZp), (0xE6, .byteOperand .incZp), (0xE8, .implied .inx),
   (0xE9, .byteOperand .sbcImm), (0xEA, .implied .nop), (0xEC, .wordOperand .cpxAbs),
   (0xED, .wordOperand .sbcAbs), (0xEE, .wordOperand .incAbs)]

def opRowF : List (Byte × Form) :=
  [(0xF0, .byteOperand .beq), (0xF1, .byteOperand .sbcIzy), (0xF5, .byteOperand .sbcZpx),
   (0xF6, .byteOperand .incZpx), (0xF8, .implied .sed), (0xF9, .wordOperand .sbcAby),
   (0xFD, .wordOperand .sbcAbx), (0xFE, .wordOperand .incAbx)]

/-- The whole table. -/
def opTable : List (Byte × Form) :=
  opRow0 ++ opRow1 ++ opRow2 ++ opRow3 ++ opRow4 ++ opRow5 ++ opRow6 ++ opRow7 ++
  opRow8 ++ opRow9 ++ opRowA ++ opRowB ++ opRowC ++ opRowD ++ opRowE ++ opRowF

/-- The first entry of a table for an opcode byte. -/
def lookupIn : List (Byte × Form) → Byte → Option Form
  | [], _ => none
  | (k, f) :: rest, op => if op = k then some f else lookupIn rest op

/-- `OPTABLE[op]` (R125); `none` is the sentinel (R126). -/
def lookupOpcode (op : Byte) : Option Form := lookupIn opTable op

/-- The answer of the decoder. -/
inductive Decoded where
  /-- an instruction and the bytes after it -/
  | instr (i : Instr) (rest : List Byte)
  /-- the first byte is the sentinel (R126) -/
  | undefinedOpcode (op : Byte)
  /-- the opcode is defined and an operand byte is missing -/
  | truncated (op : Byte)
  /-- no byte at all -/
  | empty
  deriving DecidableEq, Repr

/-- The operand bytes of a form taken from a list of bytes, low byte of a word first (R110, R115). -/
def takeOperands (op : Byte) : Form → List Byte → Decoded
  | .implied i, bs => .instr i bs
  | .byteOperand make, b :: bs => .instr (make b) bs
  | .wordOperand make, lo :: hi :: bs => .instr (make (wordOf lo hi)) bs
  | .byteOperand _, [] => .truncated op
  | .wordOperand _, [] => .truncated op
  | .wordOperand _, [_] => .truncated op

/-- The decoder on bytes in memory order. -/
def decode : List Byte → Decoded
  | [] => .empty
  | op :: bs =>
    match lookupOpcode op with
    | none => .undefinedOpcode op
    | some f => takeOperands op f bs

/-- Byte `k` of an instruction numbered as the opcode table numbers it: the first byte is bits 7..0. -/
def tableByte (w k : Nat) : Byte := BitVec.ofNat 8 (w >>> (8 * k))

/-- The instruction the decoder reads from a table word of `nbits` bits; every bit above them is 0. -/
def decodeTableWord (nbits w : Nat) : Option Instr :=
  let v := w % 2 ^ nbits
  match decode [tableByte v 0, tableByte v 1, tableByte v 2] with
  | .instr i _ => some i
  | .undefinedOpcode _ => none
  | .truncated _ => none
  | .empty => none

/-! The encoder: the opcode column of every instruction rule's Encoding line, files 40 to 44. -/

/-- The opcode byte of an instruction. -/
def Instr.opcode : Instr → Byte
  | .ldaImm _ => 0xA9
  | .ldaZp _ => 0xA5
  | .ldaZpx _ => 0xB5
  | .ldaAbs _ => 0xAD
  | .ldaAbx _ => 0xBD
  | .ldaAby _ => 0xB9
  | .ldaIzx _ => 0xA1
  | .ldaIzy _ => 0xB1
  | .ldxImm _ => 0xA2
  | .ldxZp _ => 0xA6
  | .ldxZpy _ => 0xB6
  | .ldxAbs _ => 0xAE
  | .ldxAby _ => 0xBE
  | .ldyImm _ => 0xA0
  | .ldyZp _ => 0xA4
  | .ldyZpx _ => 0xB4
  | .ldyAbs _ => 0xAC
  | .ldyAbx _ => 0xBC
  | .staZp _ => 0x85
  | .staZpx _ => 0x95
  | .staAbs _ => 0x8D
  | .staAbx _ => 0x9D
  | .staAby _ => 0x99
  | .staIzx _ => 0x81
  | .staIzy _ => 0x91
  | .stxZp _ => 0x86
  | .stxZpy _ => 0x96
  | .stxAbs _ => 0x8E
  | .styZp _ => 0x84
  | .styZpx _ => 0x94
  | .styAbs _ => 0x8C
  | .tax => 0xAA
  | .tay => 0xA8
  | .txa => 0x8A
  | .tya => 0x98
  | .tsx => 0xBA
  | .txs => 0x9A
  | .adcImm _ => 0x69
  | .adcZp _ => 0x65
  | .adcZpx _ => 0x75
  | .adcAbs _ => 0x6D
  | .adcAbx _ => 0x7D
  | .adcAby _ => 0x79
  | .adcIzx _ => 0x61
  | .adcIzy _ => 0x71
  | .sbcImm _ => 0xE9
  | .sbcZp _ => 0xE5
  | .sbcZpx _ => 0xF5
  | .sbcAbs _ => 0xED
  | .sbcAbx _ => 0xFD
  | .sbcAby _ => 0xF9
  | .sbcIzx _ => 0xE1
  | .sbcIzy _ => 0xF1
  | .andImm _ => 0x29
  | .andZp _ => 0x25
  | .andZpx _ => 0x35
  | .andAbs _ => 0x2D
  | .andAbx _ => 0x3D
  | .andAby _ => 0x39
  | .andIzx _ => 0x21
  | .andIzy _ => 0x31
  | .oraImm _ => 0x09
  | .oraZp _ => 0x05
  | .oraZpx _ => 0x15
  | .oraAbs _ => 0x0D
  | .oraAbx _ => 0x1D
  | .oraAby _ => 0x19
  | .oraIzx _ => 0x01
  | .oraIzy _ => 0x11
  | .eorImm _ => 0x49
  | .eorZp _ => 0x45
  | .eorZpx _ => 0x55
  | .eorAbs _ => 0x4D
  | .eorAbx _ => 0x5D
  | .eorAby _ => 0x59
  | .eorIzx _ => 0x41
  | .eorIzy _ => 0x51
  | .cmpImm _ => 0xC9
  | .cmpZp _ => 0xC5
  | .cmpZpx _ => 0xD5
  | .cmpAbs _ => 0xCD
  | .cmpAbx _ => 0xDD
  | .cmpAby _ => 0xD9
  | .cmpIzx _ => 0xC1
  | .cmpIzy _ => 0xD1
  | .cpxImm _ => 0xE0
  | .cpxZp _ => 0xE4
  | .cpxAbs _ => 0xEC
  | .cpyImm _ => 0xC0
  | .cpyZp _ => 0xC4
  | .cpyAbs _ => 0xCC
  | .bitZp _ => 0x24
  | .bitAbs _ => 0x2C
  | .incZp _ => 0xE6
  | .incZpx _ => 0xF6
  | .incAbs _ => 0xEE
  | .incAbx _ => 0xFE
  | .decZp _ => 0xC6
  | .decZpx _ => 0xD6
  | .decAbs _ => 0xCE
  | .decAbx _ => 0xDE
  | .inx => 0xE8
  | .iny => 0xC8
  | .dex => 0xCA
  | .dey => 0x88
  | .aslAcc => 0x0A
  | .aslZp _ => 0x06
  | .aslZpx _ => 0x16
  | .aslAbs _ => 0x0E
  | .aslAbx _ => 0x1E
  | .lsrAcc => 0x4A
  | .lsrZp _ => 0x46
  | .lsrZpx _ => 0x56
  | .lsrAbs _ => 0x4E
  | .lsrAbx _ => 0x5E
  | .rolAcc => 0x2A
  | .rolZp _ => 0x26
  | .rolZpx _ => 0x36
  | .rolAbs _ => 0x2E
  | .rolAbx _ => 0x3E
  | .rorAcc => 0x6A
  | .rorZp _ => 0x66
  | .rorZpx _ => 0x76
  | .rorAbs _ => 0x6E
  | .rorAbx _ => 0x7E
  | .bcc _ => 0x90
  | .bcs _ => 0xB0
  | .beq _ => 0xF0
  | .bne _ => 0xD0
  | .bmi _ => 0x30
  | .bpl _ => 0x10
  | .bvc _ => 0x50
  | .bvs _ => 0x70
  | .jmpAbs _ => 0x4C
  | .jmpInd _ => 0x6C
  | .jsr _ => 0x20
  | .rts => 0x60
  | .pha => 0x48
  | .php => 0x08
  | .pla => 0x68
  | .plp => 0x28
  | .clc => 0x18
  | .sec => 0x38
  | .cli => 0x58
  | .sei => 0x78
  | .cld => 0xD8
  | .sed => 0xF8
  | .clv => 0xB8
  | .nop => 0xEA
  | .brk => 0x00
  | .rti => 0x40

/-- The operand bytes of an instruction, in memory order: a word low byte first (R110, R115). -/
def Instr.operandBytes : Instr → List Byte
  | .tax | .tay | .txa | .tya | .tsx | .txs | .inx | .iny | .dex | .dey | .aslAcc | .lsrAcc | .rolAcc
    | .rorAcc | .rts | .pha | .php | .pla | .plp | .clc | .sec | .cli | .sei | .cld | .sed | .clv | .nop
    | .brk | .rti => []
  | .ldaImm b | .ldaZp b | .ldaZpx b | .ldaIzx b | .ldaIzy b | .ldxImm b | .ldxZp b | .ldxZpy b | .ldyImm b
    | .ldyZp b | .ldyZpx b | .staZp b | .staZpx b | .staIzx b | .staIzy b | .stxZp b | .stxZpy b | .styZp b
    | .styZpx b | .adcImm b | .adcZp b | .adcZpx b | .adcIzx b | .adcIzy b | .sbcImm b | .sbcZp b | .sbcZpx b
    | .sbcIzx b | .sbcIzy b | .andImm b | .andZp b | .andZpx b | .andIzx b | .andIzy b | .oraImm b | .oraZp b
    | .oraZpx b | .oraIzx b | .oraIzy b | .eorImm b | .eorZp b | .eorZpx b | .eorIzx b | .eorIzy b | .cmpImm b
    | .cmpZp b | .cmpZpx b | .cmpIzx b | .cmpIzy b | .cpxImm b | .cpxZp b | .cpyImm b | .cpyZp b | .bitZp b
    | .incZp b | .incZpx b | .decZp b | .decZpx b | .aslZp b | .aslZpx b | .lsrZp b | .lsrZpx b | .rolZp b
    | .rolZpx b | .rorZp b | .rorZpx b | .bcc b | .bcs b | .beq b | .bne b | .bmi b | .bpl b | .bvc b | .bvs b => [b]
  | .ldaAbs w | .ldaAbx w | .ldaAby w | .ldxAbs w | .ldxAby w | .ldyAbs w | .ldyAbx w | .staAbs w | .staAbx w
    | .staAby w | .stxAbs w | .styAbs w | .adcAbs w | .adcAbx w | .adcAby w | .sbcAbs w | .sbcAbx w
    | .sbcAby w | .andAbs w | .andAbx w | .andAby w | .oraAbs w | .oraAbx w | .oraAby w | .eorAbs w
    | .eorAbx w | .eorAby w | .cmpAbs w | .cmpAbx w | .cmpAby w | .cpxAbs w | .cpyAbs w | .bitAbs w
    | .incAbs w | .incAbx w | .decAbs w | .decAbx w | .aslAbs w | .aslAbx w | .lsrAbs w | .lsrAbx w
    | .rolAbs w | .rolAbx w | .rorAbs w | .rorAbx w | .jmpAbs w | .jmpInd w | .jsr w => [loByte w, hiByte w]

/-- The line that writes an instruction. -/
def Instr.line (i : Instr) : Line := ⟨i.mnemonic, i.mode, i.operandBytes⟩

/-- The bytes of an instruction in memory order (R110). -/
def encode (i : Instr) : List Byte := i.opcode :: i.operandBytes

end Sys2Proof
end

