-- ==== Sys2Proof/Machine/Fetch.lean ====
section
/-! DEFINITION. Fetching one instruction (30_encoding.md R111): the opcode byte, the undefined-opcode check, then the
operand bytes, each an ordinary bus read at `PC` with its side effects (20_memory.md R88). -/

namespace Sys2Proof.Machine

/-- What the fetch found. -/
inductive Fetched where
  /-- the instruction and the state after its bytes were read: `PC` is the address of the next one -/
  | instr (i : Instr) (s : State)
  /-- the opcode byte is the sentinel (R126); it was fetched from `at_` -/
  | undefinedOpcode (op : Byte) (at_ : Word)

/-- The operand bytes a form takes, low byte first (R110, R115). -/
def fetchOperands (f : Form) (s : State) : Instr × State :=
  match f with
  | .implied i => (i, s)
  | .byteOperand make =>
    let b := fetch8 s
    (make b.1, b.2)
  | .wordOperand make =>
    let lo := fetch8 s
    let hi := fetch8 lo.2
    (make (wordOf lo.1 hi.1), hi.2)

/-- Fetch at `PC`. Operand bytes are read only after the opcode has been found to be defined (R111, R301). -/
def fetchInstr (s : State) : Fetched :=
  let op := fetch8 s
  match lookupOpcode op.1 with
  | none => .undefinedOpcode op.1 s.cpu.pc
  | some f =>
    let r := fetchOperands f op.2
    .instr r.1 r.2

end Sys2Proof.Machine
end

