-- ==== Sys2Proof/Machine/Lifecycle.lean ====
section
/-! DEFINITION. When an operation is defined at all: not after a halt (00_scope.md R8, 10_state.md R26), not before the
boot sequence (70_reset_and_hazards.md R345, 93 U15), not with a cartridge the spec asks to refuse (20_memory.md R95,
60_exceptions.md R303; 93 U4, U5). -/

namespace Sys2Proof.Machine

/-- No operation is defined after a halt (R8, R26, 93 U8), the two resets and the loader included (R92; log entry 8). -/
def unlessHalted {α : Type} (s : State) (f : Answer α) : Answer α :=
  match s.halted with
  | some c => .fault (.afterHalt c)
  | none => f

/-- A cartridge with no PRG bank (R95, U5) or with a mapper number that is not 0 (R303, U4) is refused. -/
def whenSupported {α : Type} (s : State) (f : Answer α) : Answer α :=
  if s.cart.prgBanks = 0 then .refused .noPrgBanks
  else if s.cart.mapper ≠ 0 then .refused (.unsupportedMapper s.cart.mapper)
  else f

/-- The two resets need a cartridge (R93, R345). -/
def whenLoaded {α : Type} (s : State) (f : Answer α) : Answer α :=
  unlessHalted s <|
    match s.phase with
    | .noCartridge => .refused .notBooted
    | .loaded => whenSupported s f
    | .running => whenSupported s f

/-- Every other operation needs `CpuReset` as well (R345, U15). -/
def whenReady {α : Type} (s : State) (f : Answer α) : Answer α :=
  unlessHalted s <|
    match s.phase with
    | .noCartridge => .refused .notBooted
    | .loaded => .refused .notBooted
    | .running => whenSupported s f

/-- The states in which every operation of the host contract but `CartLoad` is defined. -/
abbrev State.Ready (s : State) : Prop :=
  s.halted = none ∧ s.phase = .running ∧ s.cart.prgBanks ≠ 0 ∧ s.cart.mapper = 0

end Sys2Proof.Machine
end

