-- ==== Sys2Proof/Machine/Step.lean ====
section
/-! DEFINITION. `CpuStep()` (30_encoding.md R111), and the placing of an instruction where the next step fetches. -/

namespace Sys2Proof.Machine

/-- One instruction: fetch, then its meaning; an undefined opcode halts the machine (R301). -/
def step (s : State) : Host.Outcome State Fault Refusal :=
  whenReady s <|
    match fetchInstr s with
    | .instr i t => exec i t
    | .undefinedOpcode op at_ => .fault (.fatal (.undefinedOpcode op at_))

/-- An address whose byte can be placed from outside: work RAM or the PRG store. -/
def placeable (a : Word) : Bool := windowOf a == .ram || windowOf a == .prg

/-- Put a byte where a fetch at `a` reads it. -/
def placeByte (a : Word) (v : Byte) (s : State) : State :=
  match windowOf a with
  | .ram => s.setRam (Memory.write s.ram (ramIndex a) v)
  | .prg => { s with cart := { s.cart with prg := Memory.write s.cart.prg (prgIndex s.cart.prgBanks a) v } }
  | .ppu => s
  | .apu => s
  | .undecoded => s

/-- What the step needs besides the bytes: a booted, running machine, a cartridge it runs, and a `PC` whose three bytes can be placed
(a `PC` in a register window or the undecoded range moves to work RAM at 0x0000; log entry 7). -/
def readyToFetch (s : State) : State :=
  let banks := if s.cart.prgBanks = 0 then 1 else s.cart.prgBanks
  let pc := if placeable s.cpu.pc && placeable (s.cpu.pc + 1) && placeable (s.cpu.pc + 2) then s.cpu.pc else 0x0000
  { s with halted := none, phase := .running, cart := { s.cart with prgBanks := banks, mapper := 0 }, cpu := { s.cpu with pc := pc } }

/-- The state with an instruction of the opcode table stored where `step` fetches next: byte `k` of the word at
`PC + k`, three bytes, zeros above `nbits` (log entry 7). -/
def State.withFetchWord (s : State) (nbits w : Nat) : State :=
  let v := w % 2 ^ nbits
  let t := readyToFetch s
  let pc := t.cpu.pc
  placeByte (pc + 2) (tableByte v 2) (placeByte (pc + 1) (tableByte v 1) (placeByte pc (tableByte v 0) t))

end Sys2Proof.Machine
end

