-- ==== Sys2Proof/Machine/Boot.lean ====
section
/-! DEFINITION. Power-on, the cartridge loader (20_memory.md R90–R95) and the two resets
(70_reset_and_hazards.md R340–R345). -/

namespace Sys2Proof.Machine

/-- The parameters the spec leaves OPEN (R5): `RAM_INIT`, `VRAM_INIT` (nametables and CHR RAM), `OAM_INIT`, `PAL_INIT`,
the unspecified frame buffer (R44), and `BUS_WRITE_VIOLATION_MODE`. -/
structure PowerOn where
  ramInit : Memory
  ntInit : Memory
  chrInit : Memory
  oamInit : Memory
  palInit : Memory
  fbInit : Memory
  writeMode : WriteMode
  deriving DecidableEq, Repr

/-- The machine before `CartLoad`: no operation but it is defined (R345, 93 U15), so no register value is read. -/
def State.powerOn (i : PowerOn) : State :=
  { cpu := Cpu.afterReset 0x0000
    ppu := Ppu.afterReset i.ntInit i.palInit i.oamInit
    joy := { shift0 := 0x00, shift1 := 0x00, state0 := 0x00, state1 := 0x00 }
    cart := { prgBanks := 0, chrBanks := 0, mirroring := .horizontal, mapper := 0, prg := [], chr := i.chrInit }
    ram := i.ramInit
    fb := i.fbInit
    halted := none
    phase := .noCartridge
    writeMode := i.writeMode }

/-- Byte `k` of an image; used below its length only. -/
def imageByte (image : List Byte) (k : Nat) : Byte := image.getD k 0

/-- The four magic bytes (R91; the layout is the spec's D52, log entry 6). -/
def headerMagic : List Byte := [0x4E, 0x45, 0x53, 0x1A]

/-- Header size (R91). -/
def headerSize : Nat := 16

/-- The header marks the extended container: byte 7 bits 3:2 equal binary 10 (R91). -/
def extendedFormat (image : List Byte) : Bool := imageByte image 7 &&& 0x0C == 0x08

/-- Where the PRG banks begin: after the header, and after the trainer when its bit is set (R92 step 4). -/
def prgOffset (image : List Byte) : Nat := headerSize + (if bit (imageByte image 6) 2 then 512 else 0)

/-- `PRG_BANKS × 16384` (R92). -/
def prgSize (image : List Byte) : Nat := (imageByte image 4).toNat * 16384

/-- `CHR_BANKS × 8192`: what the image holds of CHR (R92, 90_conflicts.md C6). -/
def chrSize (image : List Byte) : Nat := (imageByte image 5).toNat * 8192

/-- `MAPPER <- (h[7] & 0xF0) | (h[6] >> 4)` (R92). -/
def headerMapper (image : List Byte) : Byte := (imageByte image 7 &&& (0xF0 : Byte)) ||| (imageByte image 6 >>> 4)

/-- `MIRRORING`: flag byte A bit 0, 1 meaning vertical (R43, R91). -/
def headerMirroring (image : List Byte) : Mirroring := if bit (imageByte image 6) 0 then .vertical else .horizontal

/-- The cartridge an image gives; with `CHR_BANKS` = 0 the pattern store keeps its power-on contents (R92, C6). -/
def cartridgeOf (image : List Byte) (chrInit : Memory) : Cartridge :=
  { prgBanks := imageByte image 4
    chrBanks := imageByte image 5
    mirroring := headerMirroring image
    mapper := headerMapper image
    prg := Memory.ofBytes ((image.drop (prgOffset image)).take (prgSize image))
    chr := if imageByte image 5 = 0 then chrInit
      else Memory.ofBytes ((image.drop (prgOffset image + prgSize image)).take (chrSize image)) }

/-- `CartLoad(image)` (R92), once (R93): magic, then container format, then the copies. A header or image shorter than
required and a zero PRG bank count are refused (93 U5, U12). Any mapper number is
accepted (R94, R303); `whenSupported` refuses to run it. -/
def cartLoad (image : List Byte) (s : State) : Result :=
  match s.phase with
  | .loaded => .refused .cartridgeAlreadyLoaded
  | .running => .refused .cartridgeAlreadyLoaded
  | .noCartridge =>
    if image.length < 4 then .refused .imageTooShort
    else if image.take 4 ≠ headerMagic then .fault (.fatal .badMagic)
    else if image.length < headerSize then .refused .imageTooShort
    else if extendedFormat image then .fault (.fatal .unsupportedFileType)
    else if imageByte image 4 = 0 then .refused .noPrgBanks
    else if image.length < prgOffset image + prgSize image + chrSize image then .refused .imageTooShort
    else .next { s with cart := cartridgeOf image s.cart.chr, halted := none, phase := .loaded }

/-- `CpuReset()` (R340): fixed register values, `PC` from the reset vector, the halt record cleared; no push. -/
def cpuReset (s : State) : State :=
  let r := readVector vecReset s
  { r.2 with cpu := Cpu.afterReset r.1, halted := none, phase := .running }

/-- `PpuReset()` (R341): PPU registers and joypad shift registers; the memories are not changed. -/
def ppuReset (s : State) : State :=
  { s with ppu := Ppu.afterReset s.ppu.nt s.ppu.pal s.ppu.oam, joy := { s.joy with shift0 := 0x00, shift1 := 0x00 } }

end Sys2Proof.Machine
end

