-- ==== Sys2Proof/Machine/Compositor.lean ====
section
/-! DEFINITION. The background and sprite compositor (49_ppu_compositor.md R260–R276): a function of PPU and cartridge
state that writes one row of the frame buffer and nothing else. Coordinates and indices are natural numbers. -/

namespace Sys2Proof.Machine

/-- `FRAME_W` (R5). -/
def frameWidth : Nat := 256

/-- `FRAME_H` (R5). -/
def frameHeight : Nat := 240

/-- A colour index 1..3 or 0 for transparent, and the palette it selects from. -/
structure Pixel where
  color : Nat
  palette : Nat
  deriving DecidableEq, Repr

/-- One pixel's two-bit colour from the low and the high plane byte; bit 7 is the leftmost (R266, R271). -/
def planeColor (lo hi : Byte) (column : Nat) : Nat :=
  (if bit hi (7 - column) then 2 else 0) + (if bit lo (7 - column) then 1 else 0)

/-- The colour at a column of the tile row whose low plane byte stands at `addr`; the planes are 8 bytes apart. -/
def tileColor (s : State) (addr column : Nat) : Nat :=
  planeColor (vramRead s addr) (vramRead s (addr + 8)) column

/-- `wx` (R264). -/
def planeX (p : Ppu) (x : Nat) : Nat := (x + p.scrollX.toNat + 256 * (if bit p.ctrl 0 then 1 else 0)) % 512

/-- `wy` (R264). -/
def planeY (p : Ppu) (y : Nat) : Nat := (y + p.scrollY.toNat + 240 * (if bit p.ctrl 1 then 1 else 0)) % 480

/-- Base address of the nametable of a point of the 512 × 480 plane (R264, R265). -/
def nametableBase (wx wy : Nat) : Nat := 0x2000 + 0x400 * (wy / 240 * 2 + wx / 256)

/-- Tile column 0..31 (R264). -/
def tileColumn (wx : Nat) : Nat := wx % 256 / 8

/-- Tile row 0..29 (R264). -/
def tileRow (wy : Nat) : Nat := wy % 240 / 8

/-- Nametable fetch (R265). -/
def tileIndex (s : State) (wx wy : Nat) : Nat :=
  (vramRead s (nametableBase wx wy + tileRow wy * 32 + tileColumn wx)).toNat

/-- Attribute fetch (R267): the 2-bit field of the 2 × 2 tile group. -/
def backgroundPalette (s : State) (wx wy : Nat) : Nat :=
  let at_ := vramRead s (nametableBase wx wy + 0x3C0 + tileRow wy / 4 * 8 + tileColumn wx / 4)
  let shift := (tileRow wy / 2 % 2) * 4 + (tileColumn wx / 2 % 2) * 2
  at_.toNat / 2 ^ shift % 4

/-- `BgPixel(x, y)` (R263–R268); with the background disabled every pixel is transparent and no memory is read. -/
def backgroundPixel (s : State) (x y : Nat) : Pixel :=
  if bit s.ppu.mask 3 then
    let wx := planeX s.ppu x
    let wy := planeY s.ppu y
    let pattern := (if bit s.ppu.ctrl 4 then 0x1000 else 0x0000) + tileIndex s wx wy * 16 + wy % 8
    { color := tileColor s pattern (wx % 8), palette := backgroundPalette s wx wy }
  else { color := 0, palette := 0 }

/-- One sprite record (R32, R270). -/
structure Sprite where
  y : Nat
  tile : Nat
  bits : Byte
  x : Nat
  deriving DecidableEq, Repr

/-- Record `n` of OAM: Y, tile index, palette and flip bits, X (R32). -/
def spriteRecord (s : State) (n : Nat) : Sprite :=
  { y := (Memory.read s.ppu.oam (4 * n)).toNat
    tile := (Memory.read s.ppu.oam (4 * n + 1)).toNat
    bits := Memory.read s.ppu.oam (4 * n + 2)
    x := (Memory.read s.ppu.oam (4 * n + 3)).toNat }

/-- `h` (R270): 16 when `ctrl[5]` is set, else 8. -/
def spriteHeight (p : Ppu) : Nat := if bit p.ctrl 5 then 16 else 8

/-- The sprite covers the pixel: rows `Y+1 .. Y+h`, columns `X .. X+7`, and `Y` is below 0xEF (R270). -/
def Sprite.covers (o : Sprite) (h x y : Nat) : Bool :=
  decide (o.y < 0xEF) && decide (o.y + 1 ≤ y) && decide (y < o.y + 1 + h) && decide (o.x ≤ x) && decide (x < o.x + 8)

/-- The row inside the sprite after the vertical flip (R270, R272). -/
def Sprite.row (o : Sprite) (h y : Nat) : Nat :=
  let r := y - (o.y + 1)
  if bit o.bits 7 then h - 1 - r else r

/-- The column inside the sprite after the horizontal flip (R270, R272). -/
def Sprite.column (o : Sprite) (x : Nat) : Nat :=
  let c := x - o.x
  if bit o.bits 6 then 7 - c else c

/-- The address of the sprite's low plane byte for row `r` (R271): in 8×16 mode bit 0 of the tile index selects the
pattern table and the pair is the even tile and the next. -/
def Sprite.patternAddr (o : Sprite) (p : Ppu) (r : Nat) : Nat :=
  if bit p.ctrl 5 then (if o.tile % 2 = 1 then 0x1000 else 0x0000) + (o.tile / 2 * 2 + r / 8) * 16 + r % 8
  else (if bit p.ctrl 3 then 0x1000 else 0x0000) + o.tile * 16 + r

/-- The colour sprite `n` gives a pixel, if it covers it and is not transparent there (R270–R273). -/
def spritePixelOf (s : State) (x y n : Nat) : Option Pixel :=
  let o := spriteRecord s n
  let h := spriteHeight s.ppu
  if o.covers h x y then
    let c := tileColor s (o.patternAddr s.ppu (o.row h y)) (o.column x)
    if c = 0 then none else some { color := c, palette := o.bits.toNat % 4 }
  else none

/-- The first pixel a list of sprites gives, in the list's order (R274). -/
def firstSprite (s : State) (x y : Nat) : List Nat → Option Pixel
  | [] => none
  | n :: rest =>
    match spritePixelOf s x y n with
    | some c => some c
    | none => firstSprite s x y rest

/-- `SpritePixel(x, y)` (R269, R274): all 64 records in increasing order; nothing with the sprites disabled. -/
def spritePixel (s : State) (x y : Nat) : Option Pixel :=
  if bit s.ppu.mask 4 then firstSprite s x y (List.range 64) else none

/-- The palette index of a pixel (R261): a sprite pixel in front, else the background, 0 where it is transparent. -/
def pixelIndex (s : State) (x y : Nat) : Nat :=
  match spritePixel s x y with
  | some c => 0x10 + c.palette * 4 + c.color
  | none =>
    let b := backgroundPixel s x y
    if b.color = 0 then 0 else b.palette * 4 + b.color

/-- The byte a pixel of the frame holds (R261, R262). -/
def pixelByte (s : State) (x y : Nat) : Byte := vramRead s (0x3F00 + pixelIndex s x y)

/-- Pixels `x .. x+count−1` of row `y` written over a frame, all from the state at the call (R261). -/
def renderFrom (s : State) (y : Nat) : Nat → Nat → Memory → Memory
  | 0, _, fb => fb
  | count + 1, x, fb => renderFrom s y count (x + 1) (Memory.write fb (y * frameWidth + x) (pixelByte s x y))

/-- `PpuRenderRow(y)` for `y` in 0..239 (R261): writes row `y` of `FB`, and nothing else. -/
def renderRow (y : Nat) (s : State) : State := s.setFb (renderFrom s y frameWidth 0 s.fb)

/-- `FB[y][x]` (R44). -/
def framePixel (s : State) (x y : Nat) : Byte := Memory.read s.fb (y * frameWidth + x)

end Sys2Proof.Machine
end

