-- ==== Sys2Proof/Machine/Scanline.lean ====
section
/-! DEFINITION. The PPU scanline state machine (48_ppu_scanline_fsm.md R250–R256): the only notion of time. -/

namespace Sys2Proof.Machine

/-- `PreRenderAction()` (R252): the three status bits become 0. -/
def preRenderAction (s : State) : State :=
  s.setPpu { s.ppu with vblank := false, spr0 := false, ovf := false }

/-- Rendering is enabled: `(mask & 0x18) != 0` (R253). -/
def renderingEnabled (p : Ppu) : Bool := p.mask &&& 0x18 != 0

/-- `Sprite0Heuristic()` (R253): the line equals the Y byte of sprite record 0. -/
def sprite0Heuristic (s : State) : State :=
  if renderingEnabled s.ppu ∧ s.ppu.scanline = ((Memory.read s.ppu.oam 0).toNat : Int)
  then s.setPpu { s.ppu with spr0 := true } else s

/-- `VblankEntry()` (R254): set vblank, then NMI entry when `ctrl[7]` is set; answers whether it was. -/
def vblankEntry (s : State) : Bool × State :=
  let t := s.setPpu { s.ppu with vblank := true }
  if bit t.ppu.ctrl 7 then (true, cpuNmi t) else (false, t)

/-- The counter after an action: plus one, and 261 becomes −1 (R255). -/
def nextScanline (n : Int) : Int := if n + 1 = 261 then -1 else n + 1

/-- Move the counter. -/
def moveScanline (s : State) : State := s.setPpu { s.ppu with scanline := nextScanline s.ppu.scanline }

/-- `PpuAdvanceScanline()` (R251): act on the counter's value, then move it; answers `nmi_requested`. -/
def advanceScanline (s : State) : Bool × State :=
  if s.ppu.scanline = -1 then (false, moveScanline (preRenderAction s))
  else if 0 ≤ s.ppu.scanline ∧ s.ppu.scanline ≤ 240 then (false, moveScanline (sprite0Heuristic s))
  else if s.ppu.scanline = 241 then
    let r := vblankEntry s
    (r.1, moveScanline r.2)
  else (false, moveScanline s)

end Sys2Proof.Machine
end

