-- ==== Sys2Proof/Machine/Operations.lean ====
section
/-! DEFINITION. The operations the outside may call (00_scope.md R6–R8), the instruction batch, the driving loop of
48_ppu_scanline_fsm.md R258, and the halt record. -/

namespace Sys2Proof.Machine

/-- `CpuRun(n)` (R112): `n` steps, stopping early only on a halt. -/
def cpuRun : Nat → State → Result
  | 0, s => .next s
  | n + 1, s => andThen (step s) (cpuRun n)

/-- `SetJoyState(k, mask)` (R42): an input; controller 0, or 1 for every other `k` of its two. -/
def setJoyState (k : Fin 2) (m : Byte) (s : State) : State :=
  if k = 0 then s.setJoy { s.joy with state0 := m } else s.setJoy { s.joy with state1 := m }

/-- The operations of R7 that change state; `BusRead`, `BusWrite` and `CpuNmi` are internal to them. -/
inductive Operation where
  | cartLoad (image : List Byte)
  | cpuReset
  | ppuReset
  | cpuRun (n : Nat)
  | advanceScanline
  | renderRow (y : Nat)
  | setJoyState (k : Fin 2) (m : Byte)
  deriving DecidableEq, Repr

/-- One operation of the host contract, stuck after every halt (R8; log entry 8). `CpuRun(0)` is guarded like a step. -/
def perform (op : Operation) (s : State) : Result :=
  match op with
  | .cartLoad image => unlessHalted s (cartLoad image s)
  | .cpuReset => whenLoaded s (.next (cpuReset s))
  | .ppuReset => whenLoaded s (.next (ppuReset s))
  | .cpuRun n => whenReady s (cpuRun n s)
  | .advanceScanline => whenReady s (.next (advanceScanline s).2)
  | .renderRow y => whenReady s (if y < frameHeight then .next (renderRow y s) else .refused (.rowOutOfRange y))
  | .setJoyState k m => unlessHalted s (.next (setJoyState k m s))

/-- `ReadFrame()` (R7, R44): the frame buffer, under the guard of every other operation; the state does not change. -/
def readFrame (s : State) : Answer Memory := whenReady s (.next s.fb)

/-- The boot sequence from power-on (R345). -/
def boot (i : PowerOn) (image : List Byte) : Result :=
  andThen (perform (.cartLoad image) (State.powerOn i)) fun t => andThen (perform .cpuReset t) (perform .ppuReset)

/-- One turn of the driving loop (R258): a batch, the row of a visible line, one scanline advance. -/
def hostTurn (budget : Nat) (s : State) : Result :=
  andThen (perform (.cpuRun budget) s) fun t =>
    andThen (if 0 ≤ t.ppu.scanline ∧ t.ppu.scanline ≤ 239 then perform (.renderRow t.ppu.scanline.toNat) t else .next t)
      (perform .advanceScanline)

/-- `n` turns of the driving loop. -/
def hostLoop (budget : Nat) : Nat → State → Result
  | 0, s => .next s
  | n + 1, s => andThen (hostTurn budget s) (hostLoop budget n)

/-- FREE VALUE (log entry 9): everything but the halt record after a halt is unspecified (R15). -/
opaque wreckage : State → FatalCause → State

/-- The state a halt leaves: the record is set (R15, R26); nothing else of it is known. A second operation after a halt
and a refused one leave the state as it was. -/
def afterwards (s : State) (r : Result) : State :=
  match r with
  | .next t => t
  | .fault (.fatal c) => { wreckage s c with halted := some c }
  | .fault (.afterHalt _) => s
  | .refused _ => s

end Sys2Proof.Machine
end

