-- ==== Sys2Proof/Safety.lean ====
section
/-! DEFINITION. The terms claims use: the invariant of the machine and a run without a halt. -/

namespace Sys2Proof.Machine

/-- `P.U` = 1 and `P.B` = 0 at every instruction boundary (10_state.md R24). -/
def State.statusLegal (s : State) : Bool := flagOf s.cpu.p .u && !flagOf s.cpu.p .b

/-- The pattern store's size: `max(CHR_BANKS, 1) × 8192` (R29). -/
def Cartridge.chrBytes (c : Cartridge) : Nat := max c.chrBanks.toNat 1 * 8192

/-- The program store's size: `PRG_BANKS × 16384` (R28). -/
def Cartridge.prgBytes (c : Cartridge) : Nat := c.prgBanks.toNat * 16384

/-- Every array is in canonical form and within its size (R27–R32, R44). -/
def State.storesSound (s : State) : Bool :=
  Memory.sound 2048 s.ram && Memory.sound 2048 s.ppu.nt && Memory.sound 32 s.ppu.pal && Memory.sound 256 s.ppu.oam &&
  Memory.sound (frameHeight * frameWidth) s.fb && Memory.sound s.cart.prgBytes s.cart.prg &&
  Memory.sound s.cart.chrBytes s.cart.chr

/-- The counter holds one of 262 values (R41, R255). -/
def State.scanlineLegal (s : State) : Bool := decide (-1 ≤ s.ppu.scanline) && decide (s.ppu.scanline ≤ 260)

/-- A loaded machine has a PRG bank (R95); before `CartLoad` the pattern store is the one RAM-backed bank (R29). -/
def State.cartridgeLegal (s : State) : Bool :=
  match s.phase with
  | .noCartridge => s.cart.chrBanks == 0
  | .loaded => s.cart.prgBanks != 0
  | .running => s.cart.prgBanks != 0

/-- The invariant of the machine. -/
abbrev State.Inv (s : State) : Prop :=
  s.statusLegal = true ∧ s.storesSound = true ∧ s.scanlineLegal = true ∧ s.cartridgeLegal = true

/-- A batch of `n` instructions neither halts nor is refused. -/
def State.RunsFor (s : State) (n : Nat) : Prop := ∃ t, cpuRun n s = .next t

end Sys2Proof.Machine
end

