-- ==== Sys2Proof/Certificates/Slice0/Obligations.lean ====
section
/-! DEFINITION. The statements for the provers. The helpers stand in `Sys2Proof.Claims`; they say in the spec's own
numbers what the meanings say in shared operations. -/

namespace Sys2Proof.Claims

open Sys2Proof Sys2Proof.Machine

/-! ## Operands, addresses and frames -/

/-- Where the operand of an instruction is: an immediate byte, or a byte of memory in one of the modes that have an
effective address (30_encoding.md R113–R123). -/
inductive Operand where
  | none
  | imm (v : Byte)
  | zp (z : Byte)
  | zpx (z : Byte)
  | zpy (z : Byte)
  | abs (a : Word)
  | abx (a : Word)
  | aby (a : Word)
  | izx (z : Byte)
  | izy (z : Byte)

/-- The operand of every instruction of the read, write and read-modify-write classes (R130); `none` for the rest. -/
def operandOf : Instr → Operand
  | .ldaImm v | .ldxImm v | .ldyImm v | .adcImm v | .sbcImm v | .andImm v | .oraImm v | .eorImm v | .cmpImm v
    | .cpxImm v | .cpyImm v => .imm v
  | .ldaZp z | .ldxZp z | .ldyZp z | .staZp z | .stxZp z | .styZp z | .adcZp z | .sbcZp z | .andZp z | .oraZp z
    | .eorZp z | .cmpZp z | .cpxZp z | .cpyZp z | .bitZp z | .incZp z | .decZp z | .aslZp z | .lsrZp z | .rolZp z
    | .rorZp z => .zp z
  | .ldaZpx z | .ldyZpx z | .staZpx z | .styZpx z | .adcZpx z | .sbcZpx z | .andZpx z | .oraZpx z | .eorZpx z
    | .cmpZpx z | .incZpx z | .decZpx z | .aslZpx z | .lsrZpx z | .rolZpx z | .rorZpx z => .zpx z
  | .ldxZpy z | .stxZpy z => .zpy z
  | .ldaAbs a | .ldxAbs a | .ldyAbs a | .staAbs a | .stxAbs a | .styAbs a | .adcAbs a | .sbcAbs a | .andAbs a
    | .oraAbs a | .eorAbs a | .cmpAbs a | .cpxAbs a | .cpyAbs a | .bitAbs a | .incAbs a | .decAbs a | .aslAbs a
    | .lsrAbs a | .rolAbs a | .rorAbs a => .abs a
  | .ldaAbx a | .ldyAbx a | .staAbx a | .adcAbx a | .sbcAbx a | .andAbx a | .oraAbx a | .eorAbx a | .cmpAbx a
    | .incAbx a | .decAbx a | .aslAbx a | .lsrAbx a | .rolAbx a | .rorAbx a => .abx a
  | .ldaAby a | .ldxAby a | .staAby a | .adcAby a | .sbcAby a | .andAby a | .oraAby a | .eorAby a | .cmpAby a => .aby a
  | .ldaIzx z | .staIzx z | .adcIzx z | .sbcIzx z | .andIzx z | .oraIzx z | .eorIzx z | .cmpIzx z => .izx z
  | .ldaIzy z | .staIzy z | .adcIzy z | .sbcIzy z | .andIzy z | .oraIzy z | .eorIzy z | .cmpIzy z => .izy z
  | .tax | .tay | .txa | .tya | .tsx | .txs | .inx | .iny | .dex | .dey | .aslAcc | .lsrAcc | .rolAcc | .rorAcc
    | .bcc _ | .bcs _ | .beq _ | .bne _ | .bmi _ | .bpl _ | .bvc _ | .bvs _ | .jmpAbs _ | .jmpInd _ | .jsr _ | .rts
    | .pha | .php | .pla | .plp | .clc | .sec | .cli | .sei | .cld | .sed | .clv | .nop | .brk | .rti => .none

/-- The effective address, by the model's own function of the mode (0 where there is none). -/
def Operand.address (o : Operand) (s : State) : Word :=
  match o with
  | .none => 0
  | .imm _ => 0
  | .zp z => (eaZp z s).1
  | .zpx z => (eaZpx z s).1
  | .zpy z => (eaZpy z s).1
  | .abs a => (eaAbs a s).1
  | .abx a => (eaAbx a s).1
  | .aby a => (eaAby a s).1
  | .izx z => (eaIzx z s).1
  | .izy z => (eaIzy z s).1

/-- The operand byte and the state after it was read: the byte itself for an immediate, else ONE bus read (R130). -/
def Operand.read (o : Operand) (s : State) : Byte × State :=
  match o with
  | .none => (0, s)
  | .imm v => (v, s)
  | .zp z => busRead s ((Operand.zp z).address s)
  | .zpx z => busRead s ((Operand.zpx z).address s)
  | .zpy z => busRead s ((Operand.zpy z).address s)
  | .abs a => busRead s ((Operand.abs a).address s)
  | .abx a => busRead s ((Operand.abx a).address s)
  | .aby a => busRead s ((Operand.aby a).address s)
  | .izx z => busRead s ((Operand.izx z).address s)
  | .izy z => busRead s ((Operand.izy z).address s)

/-- The whole frame of a bus read: nothing differs but the four PPU port registers and the two joypad shift registers
a read may move (R76). All of RAM, PRG, CHR, nametables, palette, OAM and the frame buffer is as before. -/
def OnlyPortsMoved (s t : State) : Prop :=
  t = { s with
    ppu := { s.ppu with
      vblank := t.ppu.vblank, w := t.ppu.w, dataLatch := t.ppu.dataLatch, vramAddr := t.ppu.vramAddr }
    joy := { s.joy with shift0 := t.joy.shift0, shift1 := t.joy.shift1 } }

/-- The whole frame of a write to a device window: CPU, RAM, frame buffer, PRG, the cartridge's configuration, the
scanline counter, sprite-0 hit, overflow and the live button masks are as before. -/
def OnlyDevicesMoved (s t : State) : Prop :=
  t = { s with
    ppu := { t.ppu with scanline := s.ppu.scanline, spr0 := s.ppu.spr0, ovf := s.ppu.ovf }
    joy := { t.joy with state0 := s.joy.state0, state1 := s.joy.state1 }
    cart := { s.cart with chr := t.cart.chr } }

/-- `t` is `s` with one byte stored in work RAM: every other byte of memory and every register is as before. -/
def StoredInRam (s : State) (addr : Word) (v : Byte) (t : State) : Prop :=
  t = { s with ram := t.ram } ∧
    ∀ k, Memory.read t.ram k = if k = addr.toNat % 0x0800 then v else Memory.read s.ram k

/-- The four ways a store of `v` at `addr` from state `s` ends an instruction whose remaining effect is `finish`:
in RAM, in a device window (the state is the one the bus write gives, R62), and, from 0x4018 on, a halt or nothing. -/
def StoreEnds (s : State) (addr : Word) (v : Byte) (finish : State → State) (r : Result) : Prop :=
  (addr.toNat ≤ 0x1FFF → ∃ t, StoredInRam s addr v t ∧ r = .next (finish t)) ∧
  (0x2000 ≤ addr.toNat → addr.toNat ≤ 0x4017 →
    ∃ t, busWrite s addr v = .next t ∧ OnlyDevicesMoved s t ∧ r = .next (finish t)) ∧
  (0x4018 ≤ addr.toNat → s.writeMode = .halt → r = .fault (.fatal (.busWriteViolation addr v))) ∧
  (0x4018 ≤ addr.toNat → s.writeMode = .ignore → r = .next (finish s))

/-! ## Flags -/

/-- `q` is the status `p` with the flags `w` names written and every other flag, U and B included, unchanged. -/
def FlagsAfter (p q : Byte) (w : Flag → Option Bool) : Prop := ∀ f, flagOf q f = (w f).getD (flagOf p f)

/-- No flag is written. -/
def noFlag : Flag → Option Bool := fun _ => none

/-- One more flag is written. -/
def also (f : Flag) (on : Bool) (w : Flag → Option Bool) : Flag → Option Bool := fun g => if g = f then some on else w g

/-- Z and N of a byte (R14): Z iff it is 0, N iff it is 128 or more. -/
def zn (v : Byte) : Flag → Option Bool := also .z (decide (v.toNat = 0)) (also .n (decide (128 ≤ v.toNat)) noFlag)

/-- `i` runs at `s` to a next state: `after` (what its bus reads left) with the registers `cpu` and the status of `s`
with the flags of `w` written. -/
def Completes (i : Instr) (s after : State) (cpu : Cpu) (w : Flag → Option Bool) : Prop :=
  ∃ p, FlagsAfter s.cpu.p p w ∧ exec i s = .next { after with cpu := { cpu with p := p } }

/-- The carry as 0 or 1. -/
def carry (s : State) : Nat := if s.flag .c then 1 else 0

/-- The result byte and the carry out of a shift or rotate (42_shift_rotate.md), as numbers; `none` for the rest. -/
def shiftOutcome (m : Mnemonic) (v : Byte) (c : Nat) : Option (Byte × Bool) :=
  if m = .asl then some (BitVec.ofNat 8 (v.toNat * 2), decide (128 ≤ v.toNat))
  else if m = .lsr then some (BitVec.ofNat 8 (v.toNat / 2), decide (v.toNat % 2 = 1))
  else if m = .rol then some (BitVec.ofNat 8 (v.toNat * 2 + c), decide (128 ≤ v.toNat))
  else if m = .ror then some (BitVec.ofNat 8 (v.toNat / 2 + 128 * c), decide (v.toNat % 2 = 1))
  else none

/-- The result byte and the flags of a read-modify-write instruction; `none` for the rest. -/
def modifyOutcome (m : Mnemonic) (v : Byte) (c : Nat) : Option (Byte × (Flag → Option Bool)) :=
  if m = .inc then some (BitVec.ofNat 8 (v.toNat + 1), zn (BitVec.ofNat 8 (v.toNat + 1)))
  else if m = .dec then some (BitVec.ofNat 8 (v.toNat + 255), zn (BitVec.ofNat 8 (v.toNat + 255)))
  else (shiftOutcome m v c).map fun r => (r.1, also .c r.2 (zn r.1))

/-! ## The stack and the instruction stream -/

/-- What RAM cell `k` holds after bytes were pushed one after another from the slot `sp` on (R14, R21). -/
def cellAfterPush (m : Memory) (sp : Byte) : List Byte → Nat → Byte
  | [], k => Memory.read m k
  | b :: rest, k => if k = 0x0100 + sp.toNat then b else cellAfterPush m (sp - 1) rest k

/-- `t` is `s` with the bytes pushed and the registers `cpu`: no other byte and no other component differs. -/
def PushedTo (s t : State) (bytes : List Byte) (cpu : Cpu) : Prop :=
  t = { s with cpu := cpu, ram := t.ram } ∧ ∀ k, Memory.read t.ram k = cellAfterPush s.ram s.cpu.s bytes k

/-- The byte the `n`-th pull from now on gives, `n` from 1 (R14). -/
def stackByte (s : State) (n : Byte) : Byte := Memory.read s.ram (0x0100 + (s.cpu.s + n).toNat)

/-- A word from two bytes, as a number. -/
def wordNat (lo hi : Byte) : Word := BitVec.ofNat 16 (lo.toNat + 256 * hi.toNat)

/-- `n` times `Fetch8()` (R14): a bus read at `PC`, then `PC + 1`. -/
def fetchBytes : Nat → State → List Byte × State
  | 0, s => ([], s)
  | n + 1, s =>
    let b := busRead s s.cpu.pc
    let r := fetchBytes n (b.2.setPc (b.2.cpu.pc + 1))
    (b.1 :: r.1, r.2)

/-- The byte at an address whose read moves nothing and that has no device behind it: work RAM and PRG ROM. -/
def memoryByte (s : State) (a : Word) : Option Byte :=
  if a.toNat ≤ 0x1FFF then some (Memory.read s.ram (a.toNat % 0x0800))
  else if 0x8000 ≤ a.toNat then some (prgRead s.cart a)
  else none

/-- The bytes of an instruction stand in memory from `PC` on. -/
def InMemoryAtPc (s : State) (i : Instr) : Prop :=
  ∀ k, k < i.length → memoryByte s (s.cpu.pc + BitVec.ofNat 16 k) = (encode i)[k]?

/-! ## Which instruction writes what (30_encoding.md R131, 10_state.md R25) -/

/-- The accumulator. -/
def writesA (i : Instr) : Bool :=
  [Mnemonic.lda, .pla, .txa, .tya, .adc, .sbc, .and, .ora, .eor].contains i.mnemonic ||
  ([Mnemonic.asl, .lsr, .rol, .ror].contains i.mnemonic && i.mode == .imp)

/-- Index register X. -/
def writesX (i : Instr) : Bool := [Mnemonic.ldx, .tax, .tsx, .inx, .dex].contains i.mnemonic

/-- Index register Y. -/
def writesY (i : Instr) : Bool := [Mnemonic.ldy, .tay, .iny, .dey].contains i.mnemonic

/-- The stack pointer. -/
def writesS (i : Instr) : Bool :=
  [Mnemonic.txs, .pha, .php, .pla, .plp, .jsr, .rts, .brk, .rti].contains i.mnemonic

/-- The instructions that write Z and N. -/
def writesZN (m : Mnemonic) : Bool :=
  [Mnemonic.lda, .ldx, .ldy, .tax, .tay, .txa, .tya, .tsx, .adc, .sbc, .and, .ora, .eor, .cmp, .cpx, .cpy, .bit, .inc,
   .dec, .inx, .iny, .dex, .dey, .asl, .lsr, .rol, .ror, .pla, .plp, .rti].contains m

/-- The flag table of R25; U and B are written by nothing but the two pulls, which set them to 1 and 0 (R24). -/
def writesFlag (f : Flag) (m : Mnemonic) : Bool :=
  match f with
  | .c => [Mnemonic.adc, .sbc, .cmp, .cpx, .cpy, .asl, .lsr, .rol, .ror, .clc, .sec, .plp, .rti].contains m
  | .z => writesZN m
  | .n => writesZN m
  | .v => [Mnemonic.adc, .sbc, .bit, .clv, .plp, .rti].contains m
  | .d => [Mnemonic.sed, .cld, .plp, .rti].contains m
  | .i => [Mnemonic.sei, .cli, .brk, .plp, .rti].contains m
  | .u => [Mnemonic.plp, .rti].contains m
  | .b => [Mnemonic.plp, .rti].contains m

/-- The instructions that read D or I (to push them) or write one of them. -/
def touchesDOrI (m : Mnemonic) : Bool := [Mnemonic.php, .brk, .plp, .rti, .cld, .sed, .cli, .sei].contains m

/-- A result with a change made to its next state. -/
def mapNext (f : State → State) : Result → Result
  | .next t => .next (f t)
  | .fault e => .fault e
  | .refused e => .refused e

/-! ## The devices -/

/-- The registers of the PPU port, offsets 0 to 7 (R230; the numbers are the spec's D20, log entry 6). -/
def portTable : List Port := [.control, .mask, .status, .oamAddress, .oamData, .scroll, .vramAddress, .vramData]

/-- Bit 7 of a byte as the byte 0 or 1 (R68). -/
def topBit (v : Byte) : Byte := BitVec.ofNat 8 (v.toNat / 128)

/-- A byte shifted left by one, its top bit lost (R68). -/
def shiftedLeft (v : Byte) : Byte := BitVec.ofNat 8 (v.toNat * 2)

/-- The refusal of an operation on a machine that has not halted, if there is one: the boot sequence has not come far
enough (93 U15), no PRG bank (R95, U5), a mapper number that is not 0 (R303, U4). -/
def refusalOf (enough : Bool) (s : State) : Option Refusal :=
  if enough = false then some .notBooted
  else if s.cart.prgBanks = 0 then some .noPrgBanks
  else if s.cart.mapper = 0 then none
  else some (.unsupportedMapper s.cart.mapper)

/-- The values of `n` reads of one address, one after another, and the state after them. -/
def readsOf (a : Word) : Nat → State → List Byte × State
  | 0, s => ([], s)
  | n + 1, s =>
    let r := busRead s a
    let rest := readsOf a n r.2
    (r.1 :: rest.1, rest.2)

/-- A read of the address changes state (R76): the status and data ports in every image, and the two joypads. -/
def readHasEffect (a : Word) : Bool :=
  (decide (0x2000 ≤ a.toNat) && decide (a.toNat ≤ 0x3FFF) && (decide (a.toNat % 8 = 2) || decide (a.toNat % 8 = 7))) ||
  decide (a.toNat = 0x4016) || decide (a.toNat = 0x4017)

/-- Physical nametable of a nametable address under a mirroring, in the spec's words (R84). -/
def tableOf (m : Mirroring) (a : Nat) : Nat :=
  let q := (a >>> 10) &&& 3
  match m with
  | .vertical => if q = 0 ∨ q = 2 then 0 else 1
  | .horizontal => if q = 0 ∨ q = 1 then 0 else 1

/-- Palette slot of a palette address, in the spec's words (R87). -/
def slotOf (a : Nat) : Nat :=
  let i := a &&& 0x1F
  if i = 0x10 ∨ i = 0x14 ∨ i = 0x18 ∨ i = 0x1C then 0 else i

/-- A 14-bit PPU address is in the nametable range (R84). -/
def inNametables (a : Nat) : Bool := decide (0x2000 ≤ a) && decide (a < 0x3F00)

/-- A 14-bit PPU address is in the palette range (R87). -/
def inPalette (a : Nat) : Bool := decide (0x3F00 ≤ a) && decide (a < 0x4000)

/-- What each of `n` scanline advances answers, and the state after them. -/
def advances : Nat → State → List Bool × State
  | 0, s => ([], s)
  | n + 1, s =>
    let r := advanceScanline s
    let rest := advances n r.2
    (r.1 :: rest.1, rest.2)

/-- The two-bit colour of a column of two plane bytes, by shifting (R266, R271). -/
def shiftedColor (lo hi : Byte) (column : Nat) : Nat :=
  (((hi.toNat >>> (7 - column)) &&& 1) <<< 1) ||| ((lo.toNat >>> (7 - column)) &&& 1)

/-- A bit of a byte as a number. -/
def bitNat (v : Byte) (i : Nat) : Nat := (v.toNat >>> i) &&& 1

/-- Byte `k` of OAM. -/
def oamByte (s : State) (k : Nat) : Byte := Memory.read s.ppu.oam k

end Sys2Proof.Claims

section

open Sys2Proof Sys2Proof.Machine Sys2Proof.Claims

/-! ## Encoding -/

/-- DECODE AND ENCODE AGREE, both ways and for all 151 instructions: a list of bytes decodes to an instruction exactly
when it is that instruction's encoding followed by the rest. So every operand at every value comes back, and no list
of bytes is the encoding of two instructions (30_encoding.md R110, R125; the opcode bytes are the spec's, log entry 6). -/
def Obligations.DecodeEncodeAgree : Prop :=
  ∀ (bs : List Byte) (i : Instr) (rest : List Byte),
    decode bs = .instr i rest ↔ i.wellFormed = true ∧ bs = encode i ++ rest

/-- The decoder refuses by name: an undefined opcode byte whatever follows it, exactly for the 105 bytes R126 lists; a
defined opcode whose operand bytes are missing; and the empty list. Every other list decodes to an instruction. -/
def Obligations.DecoderRefusesExactlyTheUndefined : Prop :=
  (∀ (op : Byte) (rest : List Byte), decode (op :: rest) = .undefinedOpcode op ↔ undefinedOpcode op = true) ∧
  (∀ (op : Byte) (rest : List Byte),
    decode (op :: rest) = .truncated op ↔ ∃ i : Instr, i.opcode = op ∧ rest.length + 1 < i.length) ∧
  (∀ bs : List Byte, decode bs = .empty ↔ bs = []) ∧
  ((List.range 256).filter fun n => undefinedOpcode (BitVec.ofNat 8 n)).length = 105 ∧
  (∀ (op op' : Byte) (rest : List Byte),
    decode (op :: rest) = .undefinedOpcode op' ∨ decode (op :: rest) = .truncated op' → op' = op) ∧
  (∀ (op : Byte) (rest : List Byte), undefinedOpcode op = false →
    (∀ i : Instr, i.opcode = op → i.length ≤ rest.length + 1) → ∃ i left, decode (op :: rest) = .instr i left)

/-- Words written out from the matrix of R125, at least one of each family: the bytes decode to the instruction. -/
def Obligations.WordsDecodeAsTheMatrixSays : Prop :=
  decode [0b10101001, 0x42] = .instr (.ldaImm 0x42) [] ∧
  decode [0b10001101, 0x00, 0x02] = .instr (.staAbs 0x0200) [] ∧
  decode [0b10110110, 0xF0] = .instr (.ldxZpy 0xF0) [] ∧
  decode [0b01110001, 0x80] = .instr (.adcIzy 0x80) [] ∧
  decode [0b11000001, 0x24] = .instr (.cmpIzx 0x24) [] ∧
  decode [0b00111110, 0x00, 0x02] = .instr (.rolAbx 0x0200) [] ∧
  decode [0b01001010] = .instr .lsrAcc [] ∧
  decode [0b11010000, 0xFE] = .instr (.bne 0xFE) [] ∧
  decode [0b01101100, 0xFF, 0x02] = .instr (.jmpInd 0x02FF) [] ∧
  decode [0b00000000, 0x4C] = .instr .brk [0x4C] ∧
  decode [0b01000000] = .instr .rti []

/-! ## The step -/

/-- A STEP RUNS THE DECODED INSTRUCTION. In a booted machine, when the bytes fetched one after another from `PC` are
an instruction's, the step is that instruction on the state after the fetch, whose `PC` has advanced by its length;
when the byte fetched first is undefined, the step halts with the byte and its address, and nothing else is fetched. -/
def Obligations.StepRunsTheFetchedInstruction : Prop :=
  (∀ (s : State) (i : Instr) (t : State), s.Ready → i.wellFormed = true → fetchBytes i.length s = (encode i, t) →
    step s = exec i t ∧ t.cpu = { s.cpu with pc := s.cpu.pc + BitVec.ofNat 16 i.length } ∧ OnlyPortsMoved (s.setPc t.cpu.pc) t) ∧
  (∀ s : State, s.Ready → undefinedOpcode (busRead s s.cpu.pc).1 = true →
    step s = .fault (.fatal (.undefinedOpcode (busRead s s.cpu.pc).1 s.cpu.pc)))

/-- The same where the instruction stands in work RAM or PRG ROM: fetching it moves nothing but `PC`, so the step is
the instruction on the state itself with `PC` past it. A store to RAM is seen by the next fetch (R88): the bytes are
those RAM holds at the step. -/
def Obligations.StepFromMemory : Prop :=
  ∀ (s : State) (i : Instr), s.Ready → i.wellFormed = true → InMemoryAtPc s i →
    step s = exec i (s.setPc (s.cpu.pc + BitVec.ofNat 16 i.length))

/-- When a step stops. Booted, it is never refused: it goes on, or it halts on one of the two causes a step can raise,
the undefined opcode at `PC` or, in mode `halt`, a write to 0x4018–0xFFFF (60_exceptions.md R300, R308). After a halt it
is stuck; before the boot sequence, without a PRG bank and with a mapper number that is not 0 it is refused (R8, R303;
93 U4, U5, U8, U15; log entries 3, 5 and 11). -/
def Obligations.StepStopsOnlyWhereTheSpecSays : Prop :=
  ∀ s : State,
    (s.Ready →
      (∃ t, step s = .next t) ∨
      (undefinedOpcode (busRead s s.cpu.pc).1 = true ∧
        step s = .fault (.fatal (.undefinedOpcode (busRead s s.cpu.pc).1 s.cpu.pc))) ∨
      (s.writeMode = .halt ∧
        ∃ (a : Word) (v : Byte), 0x4018 ≤ a.toNat ∧ step s = .fault (.fatal (.busWriteViolation a v)))) ∧
    (∀ c, s.halted = some c → step s = .fault (.afterHalt c)) ∧
    (s.halted = none → s.phase ≠ .running → step s = .refused .notBooted) ∧
    (s.halted = none → s.phase = .running → s.cart.prgBanks = 0 → step s = .refused .noPrgBanks) ∧
    (s.halted = none → s.phase = .running → s.cart.prgBanks ≠ 0 → s.cart.mapper ≠ 0 →
      step s = .refused (.unsupportedMapper s.cart.mapper))

/-! ## Load, store and transfer -/

/-- LDA (8 modes), LDX (5) and LDY (5): the register takes the operand byte, Z and N are its, every other flag and
register is unchanged, memory is unchanged, and nothing but what the one read moves differs. -/
def Obligations.LoadsTakeTheOperandByte : Prop :=
  ∀ (i : Instr) (s : State),
    let o := (operandOf i).read s
    (i.mnemonic = .lda → Completes i s o.2 { s.cpu with a := o.1 } (zn o.1)) ∧
    (i.mnemonic = .ldx → Completes i s o.2 { s.cpu with x := o.1 } (zn o.1)) ∧
    (i.mnemonic = .ldy → Completes i s o.2 { s.cpu with y := o.1 } (zn o.1)) ∧
    OnlyPortsMoved s o.2

/-- TAX, TAY, TXA, TYA, TSX set the destination, Z and N; TXS sets S and no flag. Nothing else changes. -/
def Obligations.TransfersCopyARegister : Prop :=
  ∀ s : State,
    Completes .tax s s { s.cpu with x := s.cpu.a } (zn s.cpu.a) ∧
    Completes .tay s s { s.cpu with y := s.cpu.a } (zn s.cpu.a) ∧
    Completes .txa s s { s.cpu with a := s.cpu.x } (zn s.cpu.x) ∧
    Completes .tya s s { s.cpu with a := s.cpu.y } (zn s.cpu.y) ∧
    Completes .tsx s s { s.cpu with x := s.cpu.s } (zn s.cpu.s) ∧
    exec .txs s = .next { s with cpu := { s.cpu with s := s.cpu.x } }

/-- STA (7 modes), STX (3) and STY (3): the byte goes to the effective address by one bus write and no read of it; in
RAM every other byte is unchanged; no register and no flag changes; from 0x4018 on the store halts or does nothing. -/
def Obligations.StoresWriteOneByte : Prop :=
  ∀ (i : Instr) (s : State), Memory.wf s.ram = true →
    let addr := (operandOf i).address s
    (i.mnemonic = .sta → StoreEnds s addr s.cpu.a id (exec i s)) ∧
    (i.mnemonic = .stx → StoreEnds s addr s.cpu.x id (exec i s)) ∧
    (i.mnemonic = .sty → StoreEnds s addr s.cpu.y id (exec i s))

/-! ## Arithmetic and logic -/

/-- ADC (8 modes): the sum modulo 256, C from bit 8 of the sum, V when A and M have one sign and the result the
other, Z and N of the result; binary whatever D holds; nothing else changes. -/
def Obligations.AdcAddsWithCarry : Prop :=
  ∀ (i : Instr) (s : State), i.mnemonic = .adc →
    let o := (operandOf i).read s
    let sum := s.cpu.a.toNat + o.1.toNat + carry s
    let r : Byte := BitVec.ofNat 8 sum
    let v := (bit s.cpu.a 7 == bit o.1 7) && (bit r 7 != bit s.cpu.a 7)
    Completes i s o.2 { s.cpu with a := r } (also .c (decide (256 ≤ sum)) (also .v v (zn r))) ∧ OnlyPortsMoved s o.2

/-- SBC (8 modes): `A − operand − (1 − C)` modulo 256; C after is 1 exactly when no borrow was needed; V is the V of
adding the complemented operand; nothing else changes. -/
def Obligations.SbcSubtractsWithBorrow : Prop :=
  ∀ (i : Instr) (s : State), i.mnemonic = .sbc →
    let o := (operandOf i).read s
    let r : Byte := BitVec.ofInt 8 ((s.cpu.a.toNat : Int) - o.1.toNat - (1 - carry s))
    let m : Byte := o.1 ^^^ 0xFF
    let v := (bit s.cpu.a 7 == bit m 7) && (bit r 7 != bit s.cpu.a 7)
    Completes i s o.2 { s.cpu with a := r }
      (also .c (decide (o.1.toNat + (1 - carry s) ≤ s.cpu.a.toNat)) (also .v v (zn r))) ∧ OnlyPortsMoved s o.2

/-- The laws of R175, on the immediate forms. C and V are the unsigned and the signed out-of-range indicators: V is 1
exactly when the exact signed sum or difference leaves −128..127. And the round trip as R175 words it: CLC, ADC of a
byte, SEC, SBC of the byte gives A back, for all bytes. -/
def Obligations.ArithmeticLaws : Prop :=
  ∀ (s : State) (v : Byte),
    (∃ t, exec (.adcImm v) s = .next t ∧
      (t.flag .v = true ↔ s.cpu.a.toInt + v.toInt + carry s < -128 ∨ 127 < s.cpu.a.toInt + v.toInt + (carry s : Int)) ∧
      (t.flag .c = true ↔ 255 < s.cpu.a.toNat + v.toNat + carry s)) ∧
    (∃ t, exec (.sbcImm v) s = .next t ∧
      (t.flag .v = true ↔
        s.cpu.a.toInt - v.toInt - (1 - carry s) < -128 ∨ 127 < s.cpu.a.toInt - v.toInt - (1 - (carry s : Int))) ∧
      (t.flag .c = true ↔ (0 : Int) ≤ (s.cpu.a.toNat : Int) - v.toNat - (1 - carry s))) ∧
    (∃ t, andThen (exec .clc s) (fun s1 => andThen (exec (.adcImm v) s1) (fun s2 =>
      andThen (exec .sec s2) (exec (.sbcImm v)))) = .next t ∧ t.cpu.a = s.cpu.a)

/-- AND, ORA and EOR (8 modes each): the bitwise operation, bit by bit, with Z and N; C, V and all else unchanged. -/
def Obligations.LogicWorksBitByBit : Prop :=
  ∀ (i : Instr) (s : State),
    let o := (operandOf i).read s
    ∃ r : Byte,
      (i.mnemonic = .and → (∀ k, bit r k = (bit s.cpu.a k && bit o.1 k)) ∧ Completes i s o.2 { s.cpu with a := r } (zn r)) ∧
      (i.mnemonic = .ora → (∀ k, bit r k = (bit s.cpu.a k || bit o.1 k)) ∧ Completes i s o.2 { s.cpu with a := r } (zn r)) ∧
      (i.mnemonic = .eor → (∀ k, bit r k = (bit s.cpu.a k != bit o.1 k)) ∧ Completes i s o.2 { s.cpu with a := r } (zn r)) ∧
      OnlyPortsMoved s o.2

/-- CMP (8 modes), CPX (3), CPY (3): C iff the register is not below the operand, Z iff they are equal, N bit 7 of the
difference modulo 256; V, every register and all else unchanged. The carry, an unsigned comparison, is the spec's
decision D11 (marked in R165; log entry 6). -/
def Obligations.ComparesSetCarryZeroNegative : Prop :=
  ∀ (i : Instr) (s : State),
    let o := (operandOf i).read s
    let flags := fun r : Byte => also .c (decide (o.1.toNat ≤ r.toNat)) (also .z (decide (r = o.1))
      (also .n (decide (128 ≤ (r.toNat + 256 - o.1.toNat) % 256)) noFlag))
    (i.mnemonic = .cmp → Completes i s o.2 s.cpu (flags s.cpu.a)) ∧
    (i.mnemonic = .cpx → Completes i s o.2 s.cpu (flags s.cpu.x)) ∧
    (i.mnemonic = .cpy → Completes i s o.2 s.cpu (flags s.cpu.y)) ∧
    OnlyPortsMoved s o.2

/-- BIT (2 modes): Z from A and the operand together, N and V from bits 7 and 6 of the operand; A and C unchanged. -/
def Obligations.BitTestsTheOperand : Prop :=
  ∀ (i : Instr) (s : State), i.mnemonic = .bit →
    let o := (operandOf i).read s
    Completes i s o.2 s.cpu
      (also .z (decide ((s.cpu.a &&& o.1).toNat = 0))
        (also .n (decide (128 ≤ o.1.toNat)) (also .v (decide (64 ≤ o.1.toNat % 128)) noFlag))) ∧
    OnlyPortsMoved s o.2

/-- INX, INY, DEX, DEY: plus or minus 1 modulo 256 with Z and N; no carry; nothing else changes. -/
def Obligations.IndexRegistersStep : Prop :=
  ∀ s : State,
    let up := fun v : Byte => (BitVec.ofNat 8 (v.toNat + 1) : Byte)
    let down := fun v : Byte => (BitVec.ofNat 8 (v.toNat + 255) : Byte)
    Completes .inx s s { s.cpu with x := up s.cpu.x } (zn (up s.cpu.x)) ∧
    Completes .iny s s { s.cpu with y := up s.cpu.y } (zn (up s.cpu.y)) ∧
    Completes .dex s s { s.cpu with x := down s.cpu.x } (zn (down s.cpu.x)) ∧
    Completes .dey s s { s.cpu with y := down s.cpu.y } (zn (down s.cpu.y))

/-- INC, DEC (4 modes each) and ASL, LSR, ROL, ROR in their 4 memory modes: one read at the effective address, then
one write of the result there; in RAM every other byte is unchanged; the flags are those of the result (and, for the
shifts, the bit shifted out); V and every register unchanged; from 0x4018 on, after the read, a halt or no write. -/
def Obligations.ReadModifyWriteStoresTheResult : Prop :=
  ∀ (i : Instr) (s : State) (r : Byte) (w : Flag → Option Bool), Memory.wf s.ram = true → i.mode ≠ .imp →
    let addr := (operandOf i).address s
    let o := busRead s addr
    modifyOutcome i.mnemonic o.1 (carry s) = some (r, w) →
      ∃ p, FlagsAfter s.cpu.p p w ∧ OnlyPortsMoved s o.2 ∧
        StoreEnds o.2 addr r (fun t => { t with cpu := { t.cpu with p := p } }) (exec i s)

/-- ASL A, LSR A, ROL A, ROR A: A takes the shifted byte, C the bit shifted out, Z and N the result's. -/
def Obligations.AccumulatorShifts : Prop :=
  ∀ (i : Instr) (s : State) (r : Byte) (c : Bool), i.mode = .imp →
    shiftOutcome i.mnemonic s.cpu.a (carry s) = some (r, c) →
    Completes i s s { s.cpu with a := r } (also .c c (zn r))

/-! ## Control transfer -/

/-- The eight branches: taken, `PC` is the address after the branch plus the signed offset, modulo 65536; not taken,
`PC` stays. Each tests its own flag; no flag, register or byte of memory changes. -/
def Obligations.BranchesTestTheirFlag : Prop :=
  ∀ (s : State) (off : Byte),
    let went := fun (taken : Bool) =>
      (Host.Outcome.next { s with cpu := { s.cpu with
        pc := if taken then BitVec.ofInt 16 ((s.cpu.pc.toNat : Int) + off.toInt) else s.cpu.pc } } : Result)
    exec (.bcc off) s = went (!s.flag .c) ∧ exec (.bcs off) s = went (s.flag .c) ∧
    exec (.bne off) s = went (!s.flag .z) ∧ exec (.beq off) s = went (s.flag .z) ∧
    exec (.bpl off) s = went (!s.flag .n) ∧ exec (.bmi off) s = went (s.flag .n) ∧
    exec (.bvc off) s = went (!s.flag .v) ∧ exec (.bvs off) s = went (s.flag .v)

/-- JMP in both modes. Absolute: `PC` is the operand word. Indirect: the low byte of the target is at the pointer, the
high byte at the next address, or at the start of the SAME page when the pointer's low byte is 0xFF; the pointer word
is the two operand bytes, low first; nothing changes but `PC` and what the two reads move (R121). That JMP has the
absolute form and what it does (R199, R115) is the spec's general knowledge (G4, log entry 6). -/
def Obligations.JumpIndirectWrapsInThePage : Prop :=
  ∀ (s : State) (ptr : Word),
    exec (.jmpAbs ptr) s = .next { s with cpu := { s.cpu with pc := ptr } } ∧
    (Instr.jmpInd ptr).operandBytes = [BitVec.ofNat 8 (ptr.toNat % 256), BitVec.ofNat 8 (ptr.toNat / 256)] ∧
    ∃ second : Word,
      (ptr.toNat % 256 = 0xFF → second.toNat = ptr.toNat - 0xFF) ∧
      (ptr.toNat % 256 ≠ 0xFF → second.toNat = ptr.toNat + 1) ∧
      let lo := busRead s ptr
      let hi := busRead lo.2 second
      exec (.jmpInd ptr) s = .next { hi.2 with cpu := { s.cpu with pc := wordNat lo.1 hi.1 } } ∧ OnlyPortsMoved s hi.2

/-- JSR pushes the address of its own last byte (`PC` after the fetch minus 1), high byte first, and jumps; RTS pulls
low then high and goes to the word plus 1 modulo 65536. S moves by 2 modulo 256; no flag, no other register and no
other byte of memory changes. -/
def Obligations.CallPushesAndReturnPulls : Prop :=
  ∀ (s : State) (a : Word), Memory.wf s.ram = true →
    let ret := (s.cpu.pc.toNat + 0xFFFF) % 0x10000
    (∃ t, exec (.jsr a) s = .next t ∧
      PushedTo s t [BitVec.ofNat 8 (ret / 256), BitVec.ofNat 8 (ret % 256)] { s.cpu with pc := a, s := s.cpu.s - 2 }) ∧
    exec .rts s = .next { s with cpu := { s.cpu with
      pc := BitVec.ofNat 16 ((wordNat (stackByte s 1) (stackByte s 2)).toNat + 1), s := s.cpu.s + 2 } }

/-- Returns undo entries. Whatever runs in between, if it leaves S and RAM as the entry left them: RTS after JSR goes
to the instruction after the JSR; RTI after BRK restores the whole status and skips the byte after BRK; RTI after an
NMI goes to the interrupted instruction with the status but for I, which stays 1; S is restored by all three. That I
stays 1 rests on the I bit NMI entry pushes, the spec's decision D4 (93 U13), and the BRK clause on its decision D10
(log entry 6). -/
def Obligations.ReturnsUndoEntries : Prop :=
  ∀ (s u : State) (a : Word), Memory.wf s.ram = true → s.statusLegal = true →
    (∀ t, exec (.jsr a) s = .next t → u.ram = t.ram → u.cpu.s = t.cpu.s →
      exec .rts u = .next { u with cpu := { u.cpu with pc := s.cpu.pc, s := s.cpu.s } }) ∧
    (∀ t, exec .brk s = .next t → u.ram = t.ram → u.cpu.s = t.cpu.s →
      exec .rti u = .next { u with cpu := { u.cpu with pc := s.cpu.pc + 1, s := s.cpu.s, p := s.cpu.p } }) ∧
    (u.ram = (cpuNmi s).ram → u.cpu.s = (cpuNmi s).cpu.s →
      Completes .rti u u { u.cpu with pc := s.cpu.pc, s := s.cpu.s } (fun f => some (f == .i || s.flag f)))

/-! ## Stack, flags, exceptions -/

/-- PHA and PHP: one byte at 0x0100 + S, S down by 1 modulo 256; PHP pushes the status with bits 4 and 5 set; no flag
changes, every other byte of memory is unchanged. The two bits are the spec's decision D3 (marked in R211), the stack
page its D5 (log entry 6). -/
def Obligations.PushesStoreAtTheStackSlot : Prop :=
  ∀ s : State, Memory.wf s.ram = true →
    (∃ t, exec .pha s = .next t ∧ PushedTo s t [s.cpu.a] { s.cpu with s := s.cpu.s - 1 }) ∧
    (∃ (t : State) (v : Byte), exec .php s = .next t ∧ PushedTo s t [v] { s.cpu with s := s.cpu.s - 1 } ∧
      FlagsAfter s.cpu.p v (also .b true (also .u true noFlag)))

/-- PLA and PLP: S up by 1, then the byte at 0x0100 + S; PLA sets A, Z and N; PLP loads six flags, U becomes 1 and B 0
whatever was pulled; memory is unchanged. U and B are the spec's decision D3 (R24), the stack page its D5 (log entry
6). -/
def Obligations.PullsReadTheStackSlot : Prop :=
  ∀ s : State,
    Completes .pla s s { s.cpu with a := stackByte s 1, s := s.cpu.s + 1 } (zn (stackByte s 1)) ∧
    Completes .plp s s { s.cpu with s := s.cpu.s + 1 }
      (fun f => some (f == .u || (f != .b && flagOf (stackByte s 1) f)))

/-- CLC, SEC, CLI, SEI, CLD, SED, CLV write their one flag; NOP writes nothing; nothing else changes. -/
def Obligations.FlagInstructionsWriteOneFlag : Prop :=
  ∀ s : State,
    let only := fun (f : Flag) (on : Bool) => also f on noFlag
    Completes .clc s s s.cpu (only .c false) ∧ Completes .sec s s s.cpu (only .c true) ∧
    Completes .cli s s s.cpu (only .i false) ∧ Completes .sei s s s.cpu (only .i true) ∧
    Completes .cld s s s.cpu (only .d false) ∧ Completes .sed s s s.cpu (only .d true) ∧
    Completes .clv s s s.cpu (only .v false) ∧ exec .nop s = .next s

/-- BRK enters its handler: it pushes the address two past its opcode, high byte first, then the status with B and U
set and the OLD I; the live status gets I; S down by 3; `PC` from the word at 0xFFFE. All of BRK is the spec's decision
D10 (marked in R222), with D5 for the vector and the stack page and D3 for the pushed B and U (log entry 6). -/
def Obligations.BrkEntersItsHandler : Prop :=
  ∀ s : State, Memory.wf s.ram = true →
    let ret := (s.cpu.pc.toNat + 1) % 0x10000
    ∃ (t : State) (v p : Byte), exec .brk s = .next t ∧
      FlagsAfter s.cpu.p v (also .b true (also .u true noFlag)) ∧ FlagsAfter s.cpu.p p (also .i true noFlag) ∧
      PushedTo s t [BitVec.ofNat 8 (ret / 256), BitVec.ofNat 8 (ret % 256), v]
        { s.cpu with pc := wordNat (busRead s 0xFFFE).1 (busRead s 0xFFFF).1, s := s.cpu.s - 3, p := p }

/-- RTI: pulls the status (bits 4 and 5 discarded, U 1, B 0), then `PC` low, then high, with no +1; S up by 3.
What becomes of bits 4 and 5 is the spec's decision D3 (R24), the stack page its D5 (log entry 6). -/
def Obligations.RtiRestoresStatusAndPc : Prop :=
  ∀ s : State,
    Completes .rti s s { s.cpu with pc := wordNat (stackByte s 2) (stackByte s 3), s := s.cpu.s + 3 }
      (fun f => some (f == .u || (f != .b && flagOf (stackByte s 1) f)))

/-- NMI entry: pushes `PC` high byte first, then the status with B 0, U 1 and I 1, which is also the live status; `PC`
from the word at 0xFFFA; A, X, Y and everything outside the CPU and the three stack bytes unchanged. The pushed I is
the spec's reading of the document (D4, log entry 6). -/
def Obligations.NmiEntrySavesAndRedirects : Prop :=
  ∀ s : State, Memory.wf s.ram = true →
    ∃ p : Byte, FlagsAfter s.cpu.p p (also .b false (also .u true (also .i true noFlag))) ∧
      PushedTo s (cpuNmi s) [BitVec.ofNat 8 (s.cpu.pc.toNat / 256), BitVec.ofNat 8 (s.cpu.pc.toNat % 256), p]
        { s.cpu with pc := wordNat (busRead s 0xFFFA).1 (busRead s 0xFFFB).1, s := s.cpu.s - 3, p := p }

/-! ## Addressing modes -/

/-- The effective addresses as numbers (R115–R120, R123): zero-page sums wrap modulo 256, absolute sums modulo 65536,
the indirect-indexed pointer wraps in page 0 and its sum modulo 65536; resolving an address changes nothing. These
wraps are the spec's decision D6 (marked in R117 to R120 and R123; log entry 6). -/
def Obligations.EffectiveAddresses : Prop :=
  ∀ (s : State) (z : Byte) (a : Word),
    (eaZp z s).1.toNat = z.toNat ∧ (eaZpx z s).1.toNat = (z.toNat + s.cpu.x.toNat) % 256 ∧
    (eaZpy z s).1.toNat = (z.toNat + s.cpu.y.toNat) % 256 ∧ (eaAbs a s).1 = a ∧
    (eaAbx a s).1.toNat = (a.toNat + s.cpu.x.toNat) % 65536 ∧ (eaAby a s).1.toNat = (a.toNat + s.cpu.y.toNat) % 65536 ∧
    (eaIzy z s).1.toNat =
      ((wordNat (Memory.read s.ram z.toNat) (Memory.read s.ram ((z.toNat + 1) % 256))).toNat + s.cpu.y.toNat) % 65536 ∧
    (eaZp z s).2 = s ∧ (eaZpx z s).2 = s ∧ (eaZpy z s).2 = s ∧ (eaAbs a s).2 = s ∧ (eaAbx a s).2 = s ∧
    (eaAby a s).2 = s ∧ (eaIzy z s).2 = s

/-- Indexed-indirect: the zero-page pointer is the operand byte plus X modulo 256, and both pointer bytes wrap within
page 0; the address is the word the two bus reads give, and they change nothing. Every instruction of the mode uses it. -/
def Obligations.IndexedIndirectWrapsInPageZero : Prop :=
  ∀ (i : Instr) (z : Byte) (s : State), i.mode = .izx → i.operandBytes = [z] →
    ∃ first second : Word,
      first.toNat = (z.toNat + s.cpu.x.toNat) % 256 ∧ second.toNat = (z.toNat + s.cpu.x.toNat + 1) % 256 ∧
      (operandOf i).address s = wordNat (busRead s first).1 (busRead s second).1 ∧
      busRead s first = ((busRead s first).1, s) ∧ busRead s second = ((busRead s second).1, s) ∧
      eaIzx z s = ((operandOf i).address s, s)

/-! ## The bus -/

/-- The read decoder, range by range, with the masks of the document (R61); and what stands behind the two register
windows: the PPU register of each port offset in every image, 0x4016 and 0x4017 giving the top bit of a joypad register
and shifting it left, and 0 without effect from every other address of 0x4000–0x4017. Which offset is which register
(R230, D20) and the two joypad addresses (R65, D14) are the spec's decisions (log entry 6). -/
def Obligations.ReadDecoder : Prop :=
  ∀ (s : State) (a : Word), s.cart.prgBanks ≠ 0 →
    (busRead s a =
      if a ≤ 0x1FFF then (Memory.read s.ram (a &&& 0x07FF).toNat, s)
      else if a ≤ 0x3FFF then ppuRegRead s (portOf (a &&& 0x0007).toNat)
      else if a ≤ 0x4017 then apuRead s (apuPortOf (a &&& 0x001F).toNat)
      else if 0x8000 ≤ a then
        (Memory.read s.cart.prg (a &&& (if s.cart.prgBanks = 1 then 0x3FFF else 0x7FFF)).toNat, s)
      else (0, s)) ∧
    (0x2000 ≤ a.toNat → a.toNat ≤ 0x3FFF → ∀ p, portTable[a.toNat % 8]? = some p → busRead s a = ppuRegRead s p) ∧
    (0x4000 ≤ a.toNat → a.toNat ≤ 0x4017 → a ≠ 0x4016 → a ≠ 0x4017 → busRead s a = (0, s)) ∧
    busRead s 0x4016 = (topBit s.joy.shift0, { s with joy := { s.joy with shift0 := shiftedLeft s.joy.shift0 } }) ∧
    busRead s 0x4017 = (topBit s.joy.shift1, { s with joy := { s.joy with shift1 := shiftedLeft s.joy.shift1 } })

/-- The write decoder, range by range: only the last range can stop the machine, and it stores nothing (R62); and what
stands behind the two register windows: the PPU register of each port offset in every image, the OAM DMA at 0x4014, the
reload of both joypad registers at 0x4016 whatever the byte, and nothing at every other address of 0x4000–0x4017. Which
offset is which register (R230, D20) and the two addresses (R65, D14, D27) are the spec's decisions (log entry 6). -/
def Obligations.WriteDecoder : Prop :=
  ∀ (s : State) (a : Word) (v : Byte),
    (busWrite s a v =
      if a ≤ 0x1FFF then .next { s with ram := Memory.write s.ram (a &&& 0x07FF).toNat v }
      else if a ≤ 0x3FFF then .next (ppuRegWrite s (portOf (a &&& 0x0007).toNat) v)
      else if a ≤ 0x4017 then .next (apuWrite s (apuPortOf (a &&& 0x001F).toNat) v)
      else if s.writeMode = .halt then .fault (.fatal (.busWriteViolation a v))
      else .next s) ∧
    (0x2000 ≤ a.toNat → a.toNat ≤ 0x3FFF →
      ∀ p, portTable[a.toNat % 8]? = some p → busWrite s a v = .next (ppuRegWrite s p v)) ∧
    busWrite s 0x4014 v = .next (oamDma v s) ∧
    busWrite s 0x4016 v = .next { s with joy := { s.joy with shift0 := s.joy.state0, shift1 := s.joy.state1 } } ∧
    (0x4000 ≤ a.toNat → a.toNat ≤ 0x4017 → a ≠ 0x4014 → a ≠ 0x4016 → busWrite s a v = .next s)

/-- Work RAM is the address masked with 0x07FF and so appears four times: a write through one image is seen through all
four, no other byte changes, and reading has no side effect. -/
def Obligations.RamIsMirroredFourTimes : Prop :=
  ∀ (s : State) (a b : Word) (v : Byte), Memory.wf s.ram = true → a.toNat ≤ 0x1FFF → b.toNat ≤ 0x1FFF →
    busRead s b = (Memory.read s.ram (b &&& 0x07FF).toNat, s) ∧
    ∃ t, busWrite s a v = .next t ∧
      busRead t b = (if a.toNat % 0x0800 = b.toNat % 0x0800 then v else (busRead s b).1, t)

/-- The PRG window: one bank shows twice; of two or more, bank 0 is at 0x8000 and bank 1 at 0xC000; so the six vector
bytes are the last of the window's store; reading has no side effect. -/
def Obligations.PrgWindowShowsTheBanks : Prop :=
  ∀ (s : State) (a : Word), 0x8000 ≤ a.toNat →
    (busRead s a).2 = s ∧
    (s.cart.prgBanks = 1 → (busRead s a).1 = Memory.read s.cart.prg (a.toNat % 0x4000)) ∧
    (s.cart.prgBanks = 1 → busRead s (a ^^^ 0x4000) = busRead s a) ∧
    (1 < s.cart.prgBanks.toNat → (busRead s a).1 = Memory.read s.cart.prg (a.toNat - 0x8000)) ∧
    (∀ k, k < 6 → a.toNat = 0xFFFA + k →
      (s.cart.prgBanks = 1 → (busRead s a).1 = Memory.read s.cart.prg (0x3FFA + k)) ∧
      (1 < s.cart.prgBanks.toNat → (busRead s a).1 = Memory.read s.cart.prg (0x7FFA + k)))

/-- A read of 0x4018–0x7FFF gives 0 and changes nothing: there is no cartridge RAM and no bus latch. -/
def Obligations.UndecodedReadsGiveZero : Prop :=
  ∀ (s : State) (a : Word), 0x4018 ≤ a.toNat → a.toNat ≤ 0x7FFF → busRead s a = (0, s)

/-- Reads have a side effect at the listed addresses only, and there it moves four PPU port registers or a joypad
shift register, nothing else. -/
def Obligations.ReadsMoveOnlyTheListedPorts : Prop :=
  ∀ (s : State) (a : Word),
    (readHasEffect a = false → (busRead s a).2 = s) ∧ OnlyPortsMoved s (busRead s a).2

/-- The controller protocol: after any value is written to 0x4016, reads of 0x4016 give the live mask of controller 0
top bit first, reads of 0x4017 that of controller 1, and from the ninth on 0. The three addresses are the spec's (D14,
D27, log entry 6). -/
def Obligations.JoypadReadsGiveTheMaskTopBitFirst : Prop :=
  ∀ (s : State) (v : Byte) (n : Nat), ∃ t, busWrite s 0x4016 v = .next t ∧
    (readsOf 0x4016 n t).1 = (List.range n).map (fun k => if k < 8 ∧ bit s.joy.state0 (7 - k) = true then 1 else 0) ∧
    (readsOf 0x4017 n t).1 = (List.range n).map (fun k => if k < 8 ∧ bit s.joy.state1 (7 - k) = true then 1 else 0)

/-- OAM DMA: byte `i` of OAM is what the bus reads at `page * 256 + i` once bytes `0 .. i−1` are copied, for all 256 in
order, starting at OAM byte 0 whatever `oam_addr` is. Where no source read has a side effect and OAM is not among the
sources, OAM byte `i` is what the bus reads there before the copy. Nothing else differs but what those reads move. -/
def Obligations.OamDmaCopiesThePage : Prop :=
  ∀ (s : State) (page : Byte), Memory.wf s.ppu.oam = true →
    (∀ i, i < 256 →
      let before := oamDmaFrom page i 0 s
      let r := busRead before (BitVec.ofNat 16 (page.toNat * 256 + i))
      oamDmaFrom page (i + 1) 0 s = { r.2 with ppu := { r.2.ppu with oam := Memory.write r.2.ppu.oam i r.1 } } ∧
      oamByte (oamDma page s) i = r.1) ∧
    (page.toNat ≤ 0x1F ∨ 0x41 ≤ page.toNat → ∀ i, i < 256 →
      oamByte (oamDma page s) i = (busRead s (BitVec.ofNat 16 (page.toNat * 256 + i))).1) ∧
    (∀ i, 256 ≤ i → oamByte (oamDma page s) i = oamByte s i) ∧
    (oamDma page s).ppu.oamAddr = s.ppu.oamAddr ∧
    OnlyPortsMoved { s with ppu := { s.ppu with oam := (oamDma page s).ppu.oam } } (oamDma page s)

/-! ## The PPU port -/

/-- Status read: the three status bits over the low five of the latch; vblank and the toggle are cleared, sprite-0
hit, overflow, latch, buffer, scroll and address kept; so a second read gives vblank 0. -/
def Obligations.StatusReadClearsVblankAndToggle : Prop :=
  ∀ s : State,
    let r := ppuRegRead s .status
    r.1.toNat = (if s.ppu.vblank then 128 else 0) + (if s.ppu.spr0 then 64 else 0) + (if s.ppu.ovf then 32 else 0) +
      s.ppu.dataLatch.toNat % 32 ∧
    r.2 = { s with ppu := { s.ppu with vblank := false, w := false } } ∧
    (ppuRegRead r.2 .status).1.toNat = r.1.toNat % 128 ∧ (ppuRegRead r.2 .status).2 = r.2

/-- The simple ports: control, mask and OAM address store the byte; a status write and reads of the five write-only
ports do nothing (reads give 0); OAM data reads and writes at `oam_addr`, and only the write moves it on. The value 0,
the ignored write and the increment are the spec's own (D21, D23, log entry 6). -/
def Obligations.SimplePortsStoreAndRead : Prop :=
  ∀ (s : State) (v : Byte), Memory.wf s.ppu.oam = true →
    ppuRegWrite s .control v = { s with ppu := { s.ppu with ctrl := v } } ∧
    ppuRegWrite s .mask v = { s with ppu := { s.ppu with mask := v } } ∧
    ppuRegWrite s .status v = s ∧
    ppuRegWrite s .oamAddress v = { s with ppu := { s.ppu with oamAddr := v } } ∧
    (∀ r, r = .control ∨ r = .mask ∨ r = .oamAddress ∨ r = .scroll ∨ r = .vramAddress → ppuRegRead s r = (0, s)) ∧
    ppuRegRead s .oamData = (oamByte s s.ppu.oamAddr.toNat, s) ∧
    let t := ppuRegWrite s .oamData v
    t = { s with ppu := { s.ppu with oam := t.ppu.oam, oamAddr := BitVec.ofNat 8 (s.ppu.oamAddr.toNat + 1) } } ∧
    ∀ k, oamByte t k = if k = s.ppu.oamAddr.toNat then v else oamByte s k

/-- The two-write pairs: with the toggle clear, a write to either port changes only the buffer and the toggle; the
second write, to the port it is made to, forms the register with the first byte high, clears the toggle and leaves the
other register alone, whichever port took the first; a status read between the two starts the pair again, and the new
pair is closed on either port. The sharing and the byte order are the spec's own (D24, log entry 6). -/
def Obligations.WritePairsShareOneToggle : Prop :=
  ∀ (s : State) (first : Port) (b1 b2 b3 : Byte), first = .scroll ∨ first = .vramAddress → s.ppu.w = false →
    let t := ppuRegWrite s first b1
    let u := ppuRegWrite (ppuRegRead t .status).2 first b2
    t = { s with ppu := { s.ppu with wBuf := b1, w := true } } ∧
    ppuRegWrite t .scroll b2 = { s with ppu := { s.ppu with wBuf := b1, scroll := wordNat b2 b1 } } ∧
    ppuRegWrite t .vramAddress b2 = { s with ppu := { s.ppu with wBuf := b1, vramAddr := wordNat b2 b1 } } ∧
    ppuRegWrite u .scroll b3 = { s with ppu := { s.ppu with vblank := false, wBuf := b2, scroll := wordNat b3 b2 } } ∧
    ppuRegWrite u .vramAddress b3 =
      { s with ppu := { s.ppu with vblank := false, wBuf := b2, vramAddr := wordNat b3 b2 } }

/-- Data-port read: below 0x3F00 (14 bits) the old latch, from there on the byte itself; the latch takes the byte
either way; the address register moves by 1 or 32 modulo 65536; nothing else changes. What the latch takes on a
palette read is the spec's own (D25, log entry 6). -/
def Obligations.DataPortReadIsBuffered : Prop :=
  ∀ s : State,
    let a := s.ppu.vramAddr.toNat % 0x4000
    let moved : Word := BitVec.ofNat 16 (s.ppu.vramAddr.toNat + if bit s.ppu.ctrl 2 then 32 else 1)
    ppuRegRead s .vramData =
      (if a < 0x3F00 then s.ppu.dataLatch else vramRead s a,
        { s with ppu := { s.ppu with dataLatch := vramRead s a, vramAddr := moved } })

/-- Data-port write: the byte is stored at the 14-bit address (in the pattern range only when the pattern store is
RAM), so that it reads back there, and every location that is not that one is unchanged; the address register moves
in every case; the latch and every other register are unchanged. A read of the pattern range is a byte of the pattern
store. That the range is writable exactly when the cartridge declares no CHR bank is the spec's decision D22 (C5), and
the 16-bit wrap of the address register its D25 (log entry 6). -/
def Obligations.DataPortWriteStoresAndMoves : Prop :=
  ∀ (s : State) (v : Byte), Memory.wf s.ppu.nt = true → Memory.wf s.ppu.pal = true → Memory.wf s.cart.chr = true →
    let a := s.ppu.vramAddr.toNat % 0x4000
    let t := ppuRegWrite s .vramData v
    let moved : Word := BitVec.ofNat 16 (s.ppu.vramAddr.toNat + if bit s.ppu.ctrl 2 then 32 else 1)
    t = { s with
      ppu := { s.ppu with vramAddr := moved, nt := t.ppu.nt, pal := t.ppu.pal }, cart := { s.cart with chr := t.cart.chr } } ∧
    vramRead t a = (if a < 0x2000 ∧ s.cart.chrBanks ≠ 0 then vramRead s a else v) ∧
    (∀ k, Memory.read t.cart.chr k = if k = a ∧ a < 0x2000 ∧ s.cart.chrBanks = 0 then v else Memory.read s.cart.chr k) ∧
    (∀ k, Memory.read t.ppu.nt k =
      if k = 0x400 * tableOf s.cart.mirroring a + a % 0x400 ∧ inNametables a = true then v else Memory.read s.ppu.nt k) ∧
    (∀ k, Memory.read t.ppu.pal k = if k = slotOf a ∧ inPalette a = true then v else Memory.read s.ppu.pal k) ∧
    (∀ b, b < 0x2000 → vramRead s b = Memory.read s.cart.chr b)

/-- Nametable mirroring through 0x2000–0x3EFF: a location is a byte of one of two tables, chosen by bits 11:10 of the
address and the mirroring, at offset bits 9:0; after a byte is written at one address, another shows it exactly when
both lead to the same table and offset, and else shows what it showed. -/
def Obligations.NametablesAreMirrored : Prop :=
  ∀ (s : State) (a b : Nat) (v : Byte), Memory.wf s.ppu.nt = true → inNametables a = true → inNametables b = true →
    vramRead s b = Memory.read s.ppu.nt (0x400 * tableOf s.cart.mirroring b + b % 0x400) ∧
    vramRead (vramWrite s a v) b =
      if tableOf s.cart.mirroring a = tableOf s.cart.mirroring b ∧ a % 0x400 = b % 0x400 then v else vramRead s b

/-- The palette: 32 entries repeating through the range, with slots 0x10, 0x14, 0x18, 0x1C all leading to slot 0x00 and
every other slot to its own byte; a byte written at one address shows exactly at the addresses of its slot. -/
def Obligations.PaletteSlotsAlias : Prop :=
  ∀ (s : State) (a b : Nat) (v : Byte), Memory.wf s.ppu.pal = true → inPalette a = true → inPalette b = true →
    vramRead s b = Memory.read s.ppu.pal (slotOf b) ∧
    vramRead (vramWrite s a v) b = if slotOf a = slotOf b then v else vramRead s b

/-! ## The scanline state machine -/

/-- One advance, phase by phase: the action on the counter's value at the call, then the counter. On −1 the three
status bits clear; on 0..240 sprite-0 hit is set when rendering is enabled and the line is OAM byte 0; on 241 vblank is
set and then, if `ctrl[7]`, NMI entry runs and the answer is true; on 242..260 nothing. The counter goes up by one and
from 260 to −1. The order and the start value are the spec's (D30, D31, log entry 6). -/
def Obligations.AdvanceActsThenCounts : Prop :=
  ∀ s : State,
    let n := s.ppu.scanline
    let done := fun (req : Bool) (t : State) =>
      advanceScanline s = (req, { t with ppu := { t.ppu with scanline := if n = 260 then -1 else n + 1 } })
    (n = -1 → done false { s with ppu := { s.ppu with vblank := false, spr0 := false, ovf := false } }) ∧
    (0 ≤ n → n ≤ 240 → done false { s with ppu := { s.ppu with
      spr0 := s.ppu.spr0 || ((bit s.ppu.mask 3 || bit s.ppu.mask 4) && decide (n = ((oamByte s 0).toNat : Int))) } }) ∧
    (n = 241 →
      let t := { s with ppu := { s.ppu with vblank := true } }
      (bit s.ppu.ctrl 7 = true → done true (cpuNmi t)) ∧ (bit s.ppu.ctrl 7 = false → done false t)) ∧
    (242 ≤ n → n ≤ 260 → done false s)

/-- A frame: 262 advances from the pre-render line lead back to it. Exactly the 243rd answers true, and only with
`ctrl[7]` set; after them vblank is set, sprite-0 hit is set exactly when rendering is enabled and OAM byte 0 is at
most 240, overflow is clear; the CPU and RAM are those NMI entry leaves, or untouched; nothing else changes. Which call
it is and the hit condition rest on the spec's decisions D30 and D31 (log entry 6). -/
def Obligations.FrameIs262Advances : Prop :=
  ∀ s : State, s.ppu.scanline = -1 →
    let r := advances 262 s
    let nmi := bit s.ppu.ctrl 7
    let hit := (bit s.ppu.mask 3 || bit s.ppu.mask 4) && decide ((oamByte s 0).toNat ≤ 240)
    r.1 = (List.range 262).map (fun k => nmi && decide (k = 242)) ∧
    r.2 = { (if nmi then cpuNmi s else s) with ppu := { s.ppu with vblank := true, spr0 := hit, ovf := false } }

/-! ## The compositor -/

/-- Rendering a row writes the 256 pixels of that row, each the palette byte in the slot of its index computed from the
state at the call, and changes nothing else: no other row, no register, no memory. With both enables clear every pixel
is palette byte 0. A row past 239 is refused. The frame's size and that a pixel holds the palette byte are the spec's
decision D40 (log entry 6). -/
def Obligations.RenderRowWritesOneRow : Prop :=
  ∀ (s : State) (y : Nat), Memory.wf s.fb = true → s.Ready →
    (239 < y → perform (.renderRow y) s = .refused (.rowOutOfRange y)) ∧
    (y ≤ 239 → ∃ t, perform (.renderRow y) s = .next t ∧ t = { s with fb := t.fb } ∧
      ∀ x y', x < 256 → y' < 240 → framePixel t x y' =
        if y' = y then Memory.read s.ppu.pal (slotOf (pixelIndex s x y)) else framePixel s x y') ∧
    (bit s.ppu.mask 3 = false → bit s.ppu.mask 4 = false → ∀ x, slotOf (pixelIndex s x y) = 0)

/-- Sprites: the pixel is that of the lowest-numbered sprite that gives one there, and there is none exactly when the
enable is clear or no sprite of the 64 gives one; no limit per row; a sprite pixel is in front of any background, and
its palette index is 16 plus four times its palette plus its colour (R274 is the spec's decision D42). -/
def Obligations.FrontSpriteIsTheLowestNumbered : Prop :=
  ∀ (s : State) (x y : Nat),
    (∀ c, spritePixel s x y = some c ↔
      bit s.ppu.mask 4 = true ∧ ∃ n, n < 64 ∧ spritePixelOf s x y n = some c ∧ ∀ k, k < n → spritePixelOf s x y k = none) ∧
    (spritePixel s x y = none ↔ bit s.ppu.mask 4 = false ∨ ∀ n, n < 64 → spritePixelOf s x y n = none) ∧
    (∀ c, spritePixel s x y = some c → pixelIndex s x y = 16 + 4 * c.palette + c.color) ∧
    (spritePixel s x y = none → pixelIndex s x y =
      if (backgroundPixel s x y).color = 0 then 0 else 4 * (backgroundPixel s x y).palette + (backgroundPixel s x y).color)

/-- What one sprite gives a pixel: rows Y+1..Y+h and columns X..X+7 unless Y is 0xEF or more; flips; the pattern
address in both sizes; colour 0 transparent. The formulas are the spec's (D42, log entry 6). -/
def Obligations.SpritePixelFormula : Prop :=
  ∀ (s : State) (x y n : Nat),
    let sy := (oamByte s (4 * n)).toNat
    let tile := (oamByte s (4 * n + 1)).toNat
    let attr := oamByte s (4 * n + 2)
    let sx := (oamByte s (4 * n + 3)).toNat
    let h := 8 + 8 * bitNat s.ppu.ctrl 5
    let r := if bitNat attr 7 = 1 then h - 1 - (y - (sy + 1)) else y - (sy + 1)
    let cx := if bitNat attr 6 = 1 then 7 - (x - sx) else x - sx
    let pa := if h = 8 then 0x1000 * bitNat s.ppu.ctrl 3 + tile * 16 + r
      else 0x1000 * (tile &&& 1) + ((tile &&& 0xFE) + (r >>> 3)) * 16 + (r &&& 7)
    let c := shiftedColor (vramRead s pa) (vramRead s (pa + 8)) cx
    spritePixelOf s x y n =
      if sy < 0xEF ∧ sy + 1 ≤ y ∧ y ≤ sy + h ∧ sx ≤ x ∧ x ≤ sx + 7 ∧ c ≠ 0 then some ⟨c, attr.toNat &&& 3⟩ else none

/-- The background pixel: coordinates in the 512 × 480 plane, nametable, tile, pattern row, attribute field, in the
spec's shifts and masks; transparent everywhere when the enable is clear. The formulas are the spec's (D41, D44, log
entry 6). -/
def Obligations.BackgroundPixelFormula : Prop :=
  ∀ (s : State) (x y : Nat),
    let wx := (x + s.ppu.scroll.toNat / 256 + 256 * bitNat s.ppu.ctrl 0) % 512
    let wy := (y + s.ppu.scroll.toNat % 256 + 240 * bitNat s.ppu.ctrl 1) % 480
    let base := 0x2000 + 0x400 * (wy / 240 * 2 + wx / 256)
    let col := wx % 256 / 8
    let row := wy % 240 / 8
    let tile := (vramRead s (base + row * 32 + col)).toNat
    let pa := 0x1000 * bitNat s.ppu.ctrl 4 + tile * 16 + wy % 8
    let at_ := (vramRead s (base + 0x3C0 + row / 4 * 8 + col / 4)).toNat
    (bit s.ppu.mask 3 = true → backgroundPixel s x y =
      ⟨shiftedColor (vramRead s pa) (vramRead s (pa + 8)) (wx % 8), (at_ >>> (((row &&& 2) <<< 1) ||| (col &&& 2))) &&& 3⟩) ∧
    (bit s.ppu.mask 3 = false → backgroundPixel s x y = ⟨0, 0⟩)

/-! ## Loading and reset -/

/-- The loader's outcomes on a machine without a cartridge: wrong magic, then extended container, in the spec's order;
then no PRG bank, then image too short, an order that is the model's DESIGN CHOICE (log entry 10: the spec orders
neither U5 nor U12); else a cartridge whose stores read back the image's bytes after the header (and the 512-byte
trainer when flagged), with the mirroring and the mapper number of the header, any number accepted; a second load is
refused. Of an image shorter than a header one with four wrong bytes has the wrong magic and any other is too short,
the model's DESIGN CHOICE too (log entry 10). The layout is the spec's decision D52 (log entry 6). -/
def Obligations.LoaderReadsTheImage : Prop :=
  ∀ (s : State) (image : List Byte),
    let h := imageByte image
    let p := 16 + 512 * bitNat (h 6) 2
    let prg := 16384 * (h 4).toNat
    let chr := 8192 * (h 5).toNat
    (s.phase ≠ .noCartridge → cartLoad image s = .refused .cartridgeAlreadyLoaded) ∧
    (s.phase = .noCartridge → image.length < 16 → cartLoad image s =
      if 4 ≤ image.length ∧ (h 0, h 1, h 2, h 3) ≠ (0x4E, 0x45, 0x53, 0x1A) then .fault (.fatal .badMagic)
      else .refused .imageTooShort) ∧
    (s.phase = .noCartridge → 16 ≤ image.length →
      ((h 0, h 1, h 2, h 3) ≠ (0x4E, 0x45, 0x53, 0x1A) → cartLoad image s = .fault (.fatal .badMagic)) ∧
      ((h 0, h 1, h 2, h 3) = (0x4E, 0x45, 0x53, 0x1A) →
        (bitNat (h 7) 3 = 1 ∧ bitNat (h 7) 2 = 0 → cartLoad image s = .fault (.fatal .unsupportedFileType)) ∧
        (¬(bitNat (h 7) 3 = 1 ∧ bitNat (h 7) 2 = 0) →
          (h 4 = 0 → cartLoad image s = .refused .noPrgBanks) ∧
          (h 4 ≠ 0 → image.length < p + prg + chr → cartLoad image s = .refused .imageTooShort) ∧
          (h 4 ≠ 0 → p + prg + chr ≤ image.length → ∃ t, cartLoad image s = .next t ∧
            t = { s with cart := t.cart, halted := none, phase := .loaded } ∧
            t.cart.prgBanks = h 4 ∧ t.cart.chrBanks = h 5 ∧
            t.cart.mirroring = (if bitNat (h 6) 0 = 1 then .vertical else .horizontal) ∧
            t.cart.mapper.toNat = (h 7).toNat / 16 * 16 + (h 6).toNat / 16 ∧
            (∀ k, k < prg → Memory.read t.cart.prg k = h (p + k)) ∧
            (∀ k, k < chr → Memory.read t.cart.chr k = h (p + prg + k)) ∧
            (h 5 = 0 → t.cart.chr = s.cart.chr)))))

/-- The two resets and the state after them. CpuReset: A, X, Y 0, S 0xFD, P 0x24, `PC` the word at 0xFFFC, the halt
record cleared, nothing else touched. PpuReset: the PPU registers 0, the counter −1, the joypad shift registers 0, the
memories untouched. Either order gives one state, and `State.reset` is that state for the blank cartridge of log entry
4. The PPU's values are the spec's decision D50, the vector's address D5, the blank contents the model's (log entry 2). -/
def Obligations.ResetsLeaveTheStatedValues : Prop :=
  ∀ s : State, s.cart.prgBanks ≠ 0 →
    let c := cpuReset s
    let p := ppuReset s
    c = { s with
      cpu := { a := 0, x := 0, y := 0, s := 0xFD, p := 0x24, pc := wordNat (busRead s 0xFFFC).1 (busRead s 0xFFFD).1 },
      halted := none, phase := .running } ∧
    p = { s with
      ppu := {
        ctrl := 0, mask := 0, vblank := false, spr0 := false, ovf := false, oamAddr := 0, scroll := 0,
        vramAddr := 0, dataLatch := 0, w := false, wBuf := 0, scanline := -1,
        nt := s.ppu.nt, pal := s.ppu.pal, oam := s.ppu.oam },
      joy := { s.joy with shift0 := 0, shift1 := 0 } } ∧
    cpuReset p = ppuReset c ∧
    (s.cart.prg = [] → s.ram = [] → s.fb = [] → s.ppu.nt = [] → s.ppu.pal = [] → s.ppu.oam = [] → s.writeMode = .halt →
      s.joy.state0 = 0 → s.joy.state1 = 0 → s.cart = ⟨1, 0, .horizontal, 0, [], []⟩ → ppuReset c = State.reset)

/-! ## Rules about the whole machine -/

/-- EVERY STEP KEEPS THE INVARIANT: U is 1 and B is 0, every store of bytes is in canonical form and within its size,
the counter is in −1..260, a loaded machine has a PRG bank. -/
def Obligations.StepKeepsTheInvariant : Prop :=
  ∀ s t : State, s.Inv → step s = .next t → t.Inv

/-- The invariant holds at `State.reset`, the state after the boot sequence with the model's own blank cartridge (log entry
4) and blank memories (log entry 2): both are DESIGN CHOICES, not the spec's. -/
def Obligations.InvariantHoldsAtReset : Prop := State.reset.Inv

/-- Every operation of the host contract keeps the invariant: loading, the two resets, a batch of any length, a
scanline advance with its NMI, a row, a button mask. -/
def Obligations.OperationsKeepTheInvariant : Prop :=
  ∀ (op : Operation) (s t : State), s.Inv → perform op s = .next t → t.Inv

/-- What no instruction can change: PRG ROM and the cartridge's configuration, the pattern store unless it is RAM, the
frame buffer, the scanline counter, sprite-0 hit and overflow, the live button masks, the write mode, the halt record.
So a step leaves a booted machine booted. -/
def Obligations.StepNeverTouchesTheFixedParts : Prop :=
  ∀ s t : State, step s = .next t →
    t.cart = { s.cart with chr := t.cart.chr } ∧ (s.cart.chrBanks ≠ 0 → t.cart.chr = s.cart.chr) ∧ t.fb = s.fb ∧
    t.ppu.scanline = s.ppu.scanline ∧ t.ppu.spr0 = s.ppu.spr0 ∧ t.ppu.ovf = s.ppu.ovf ∧
    t.joy.state0 = s.joy.state0 ∧ t.joy.state1 = s.joy.state1 ∧ t.writeMode = s.writeMode ∧ t.Ready

/-- Who may write what, over all 151 instructions: a register or a flag changes only in an instruction the tables of
R131 and R25 name for it (stores, jumps, branches, pushes and the rest leave it alone). -/
def Obligations.RegistersAndFlagsHaveTheirWriters : Prop :=
  ∀ (i : Instr) (s t : State), exec i s = .next t →
    (writesA i = false → t.cpu.a = s.cpu.a) ∧ (writesX i = false → t.cpu.x = s.cpu.x) ∧
    (writesY i = false → t.cpu.y = s.cpu.y) ∧ (writesS i = false → t.cpu.s = s.cpu.s) ∧
    (∀ f, writesFlag f i.mnemonic = false → t.flag f = s.flag f)

/-- D and I influence nothing: for every instruction that neither pushes nor writes them, a state with D or I changed
gives the same outcome with that flag changed and nothing else. So arithmetic is binary whatever D holds (R176, D9) and
I masks nothing (R306, D55). -/
def Obligations.DecimalAndInterruptFlagsInfluenceNothing : Prop :=
  ∀ (i : Instr) (s : State) (f : Flag) (on : Bool), f = .d ∨ f = .i → touchesDOrI i.mnemonic = false →
    exec i (s.setFlag f on) = mapNext (fun t => t.setFlag f on) (exec i s)

/-! ## The host operations -/

/-- The operations of the host. A batch of `n` instructions is `n` steps in order, ended early only by a step that does
not go on, whose outcome is the batch's. A button mask replaces that controller's and nothing else. Each operation has
its effect where it is defined; after a halt, a loader failure included, every one is stuck (R8, R26, R92); before the
boot sequence has come far enough, without a PRG bank or with a mapper number that is not 0 it is refused (93 U4, U5,
U15). That the resets too are stuck after a halt is log entry 8, and what is allowed before boot log entry 16. -/
def Obligations.HostOperationsRunAndAreGuarded : Prop :=
  (∀ s, cpuRun 0 s = .next s ∧ cpuRun 1 s = step s) ∧
  (∀ m n s, cpuRun (m + n) s = andThen (cpuRun m s) (cpuRun n)) ∧
  (∀ n s, (∃ t, cpuRun n s = .next t) ∨
    ∃ k u, k < n ∧ cpuRun k s = .next u ∧ cpuRun n s = step u ∧ ∀ t, step u ≠ .next t) ∧
  (∀ s c, s.halted = some c → (∀ op, perform op s = .fault (.afterHalt c)) ∧ readFrame s = .fault (.afterHalt c)) ∧
  (∀ s c op, perform op (afterwards s (.fault (.fatal c))) = .fault (.afterHalt c)) ∧
  ∀ s, s.halted = none →
    (∀ image, perform (.cartLoad image) s = cartLoad image s) ∧
    (∀ m, perform (.setJoyState 0 m) s = .next { s with joy := { s.joy with state0 := m } } ∧
      perform (.setJoyState 1 m) s = .next { s with joy := { s.joy with state1 := m } }) ∧
    (refusalOf (s.phase != .noCartridge) s = none →
      perform .cpuReset s = .next (cpuReset s) ∧ perform .ppuReset s = .next (ppuReset s)) ∧
    (∀ r, refusalOf (s.phase != .noCartridge) s = some r →
      perform .cpuReset s = .refused r ∧ perform .ppuReset s = .refused r) ∧
    (refusalOf (s.phase == .running) s = none →
      (∀ n, perform (.cpuRun n) s = cpuRun n s) ∧ perform .advanceScanline s = .next (advanceScanline s).2 ∧
      readFrame s = .next s.fb) ∧
    (∀ r, refusalOf (s.phase == .running) s = some r →
      (∀ n, perform (.cpuRun n) s = .refused r) ∧ perform .advanceScanline s = .refused r ∧
      (∀ y, perform (.renderRow y) s = .refused r) ∧ readFrame s = .refused r)

end
end

