-- ==== Sys2Proof/Laws/Memory.lean ====
section
/-! SUPPORT. The laws of a store: read after write, and that every operation keeps the canonical form. -/

namespace Sys2Proof.Machine

@[simp] theorem Memory.read_nil (a : Nat) : Memory.read [] a = Config.blankByte := rfl

/-- A cell below every listed one reads as an unlisted cell. -/
theorem Memory.read_below : ∀ {m : Memory} {lo a : Nat}, Memory.wfFrom lo m = true → a < lo →
    Memory.read m a = Config.blankByte
  | [], _, _, _, _ => rfl
  | (k, b) :: m, lo, a, h, ha => by
    simp only [Memory.wfFrom, Bool.and_eq_true, decide_eq_true_eq] at h
    have : a ≠ k := by omega
    simp only [Memory.read, this, if_false]
    exact Memory.read_below h.2 (by omega)

/-- Canonical from a higher address is canonical from a lower one. -/
theorem Memory.wfFrom_mono : ∀ {m : Memory} {lo lo' : Nat}, lo' ≤ lo → Memory.wfFrom lo m = true →
    Memory.wfFrom lo' m = true
  | [], _, _, _, _ => rfl
  | (k, b) :: m, lo, lo', hl, h => by
    simp only [Memory.wfFrom, Bool.and_eq_true, decide_eq_true_eq] at h ⊢
    exact ⟨⟨by omega, h.1.2⟩, h.2⟩

/-- READ AFTER WRITE: the written cell gives the written byte and every other cell is as before. -/
theorem Memory.read_write : ∀ {m : Memory} {lo : Nat} (_ : Memory.wfFrom lo m = true) (a : Nat) (v : Byte) (c : Nat),
    Memory.read (Memory.write m a v) c = if c = a then v else Memory.read m c
  | [], _, _, a, v, c => by
    by_cases hv : v = Config.blankByte <;> by_cases hc : c = a <;> simp [Memory.write, Memory.read, hv, hc]
  | (k, b) :: m, lo, h, a, v, c => by
    simp only [Memory.wfFrom, Bool.and_eq_true, decide_eq_true_eq] at h
    have below := fun {x} (hx : x < k + 1) => Memory.read_below h.2 hx
    have ih := Memory.read_write h.2 a v c
    by_cases hlt : a < k
    · by_cases hv : v = Config.blankByte
      · by_cases hc : c = a
        · have : c ≠ k := by omega
          have := below (x := c) (by omega)
          simp_all [Memory.write, Memory.read]
        · simp [Memory.write, hlt, hv, hc]
      · by_cases hc : c = a <;> simp [Memory.write, Memory.read, hlt, hv, hc]
    · by_cases he : a = k
      · subst he
        by_cases hv : v = Config.blankByte <;> by_cases hc : c = a
        · have := below (x := c) (by omega)
          simp_all [Memory.write]
        · simp [Memory.write, Memory.read, hv, hc]
        · simp [Memory.write, Memory.read, hv, hc]
        · simp [Memory.write, Memory.read, hv, hc]
      · simp only [Memory.write, hlt, he, if_false, Memory.read, ih]
        by_cases hck : c = k
        · have : k ≠ a := fun e => he e.symm
          simp [hck, this]
        · simp [hck]

/-- A write keeps the canonical form. -/
theorem Memory.wfFrom_write : ∀ {m : Memory} {lo : Nat} {a : Nat}, Memory.wfFrom lo m = true → lo ≤ a → ∀ v : Byte,
    Memory.wfFrom lo (Memory.write m a v) = true
  | [], lo, a, _, ha, v => by
    by_cases hv : v = Config.blankByte <;> simp [Memory.write, Memory.wfFrom, hv, ha]
  | (k, b) :: m, lo, a, h, ha, v => by
    have h0 := h
    simp only [Memory.wfFrom, Bool.and_eq_true, decide_eq_true_eq] at h
    by_cases hlt : a < k
    · by_cases hv : v = Config.blankByte
      · simpa [Memory.write, hlt, hv] using h0
      · simp [Memory.write, Memory.wfFrom, hlt, hv, ha, h.1.2, h.2]
    · by_cases he : a = k
      · subst he
        by_cases hv : v = Config.blankByte
        · simpa [Memory.write, hv] using Memory.wfFrom_mono (by omega) h.2
        · simp [Memory.write, Memory.wfFrom, hv, h.1.1, h.2]
      · simp [Memory.write, Memory.wfFrom, hlt, he, h.1.1, h.1.2]
        exact Memory.wfFrom_write h.2 (by omega) v

theorem Memory.wf_write {m : Memory} (h : Memory.wf m = true) (a : Nat) (v : Byte) :
    Memory.wf (Memory.write m a v) = true :=
  Memory.wfFrom_write h (Nat.zero_le a) v

theorem Memory.read_write_wf {m : Memory} (h : Memory.wf m = true) (a : Nat) (v : Byte) (c : Nat) :
    Memory.read (Memory.write m a v) c = if c = a then v else Memory.read m c :=
  Memory.read_write h a v c

/-- A write inside the array keeps it inside its size. -/
theorem Memory.fits_write : ∀ {m : Memory} {n a : Nat}, Memory.fits n m = true → a < n → ∀ v : Byte,
    Memory.fits n (Memory.write m a v) = true
  | [], n, a, _, ha, v => by
    by_cases hv : v = Config.blankByte <;> simp [Memory.write, Memory.fits, hv, ha]
  | (k, b) :: m, n, a, h, ha, v => by
    obtain ⟨hk, hm⟩ : k < n ∧ Memory.fits n m = true := by
      simpa only [Memory.fits, List.all_cons, Bool.and_eq_true, decide_eq_true_eq] using h
    have ih := Memory.fits_write hm ha v
    unfold Memory.write
    split_ifs <;> simp only [Memory.fits, List.all_cons, Bool.and_eq_true, decide_eq_true_eq] at hm ih ⊢ <;>
      simp only [*, and_self]

/-- A write inside the array keeps a sound store sound. -/
theorem Memory.sound_write {m : Memory} {n a : Nat} (h : Memory.sound n m = true) (ha : a < n) (v : Byte) :
    Memory.sound n (Memory.write m a v) = true := by
  simp only [Memory.sound, Bool.and_eq_true] at h ⊢
  exact ⟨Memory.wf_write h.1 a v, Memory.fits_write h.2 ha v⟩

theorem Memory.sound_wf {m : Memory} {n : Nat} (h : Memory.sound n m = true) : Memory.wf m = true := by
  simp only [Memory.sound, Bool.and_eq_true] at h; exact h.1

/-- A copied image is canonical. -/
theorem Memory.wfFrom_ofBytesFrom : ∀ (bs : List Byte) (base : Nat),
    Memory.wfFrom base (Memory.ofBytesFrom base bs) = true
  | [], _ => rfl
  | b :: bs, base => by
    have ih := Memory.wfFrom_ofBytesFrom bs (base + 1)
    by_cases hb : b = Config.blankByte
    · simpa [Memory.ofBytesFrom, hb] using Memory.wfFrom_mono (Nat.le_succ base) ih
    · simp [Memory.ofBytesFrom, Memory.wfFrom, hb, ih]

theorem Memory.wf_ofBytes (bs : List Byte) : Memory.wf (Memory.ofBytes bs) = true :=
  Memory.wfFrom_ofBytesFrom bs 0

/-- A copied image lists no cell beyond its bytes. -/
theorem Memory.fits_ofBytesFrom : ∀ (bs : List Byte) (base n : Nat), base + bs.length ≤ n →
    Memory.fits n (Memory.ofBytesFrom base bs) = true
  | [], _, _, _ => rfl
  | b :: bs, base, n, h => by
    simp only [List.length_cons] at h
    have ih := Memory.fits_ofBytesFrom bs (base + 1) n (by omega)
    by_cases hb : b = Config.blankByte
    · simpa [Memory.ofBytesFrom, hb] using ih
    · simp only [Memory.ofBytesFrom, hb, if_false]
      simp only [Memory.fits, List.all_cons, Bool.and_eq_true, decide_eq_true_eq]
      exact ⟨by omega, ih⟩

/-- A copied image reads back byte for byte. -/
theorem Memory.read_ofBytesFrom : ∀ (bs : List Byte) (base i : Nat), i < bs.length →
    Memory.read (Memory.ofBytesFrom base bs) (base + i) = bs.getD i Config.blankByte
  | [], _, _, h => by simp at h
  | b :: bs, base, 0, _ => by
    have hbelow := Memory.read_below (Memory.wfFrom_ofBytesFrom bs (base + 1)) (Nat.lt_succ_self base)
    by_cases hb : b = Config.blankByte <;> simp [Memory.ofBytesFrom, Memory.read, hb]
    simpa using hbelow
  | b :: bs, base, i + 1, h => by
    have ih := Memory.read_ofBytesFrom bs (base + 1) i (by simpa using h)
    have hne : base + (i + 1) ≠ base := by omega
    have heq : base + (i + 1) = base + 1 + i := by omega
    by_cases hb : b = Config.blankByte
    · simp only [Memory.ofBytesFrom, hb, if_true, heq, ih]
      simp
    · simp only [Memory.ofBytesFrom, hb, if_false, Memory.read, hne]
      rw [heq, ih]
      simp

/-- Two canonical stores that read alike everywhere are the same list. -/
theorem Memory.ext_wf : ∀ {m n : Memory} {lo : Nat}, Memory.wfFrom lo m = true → Memory.wfFrom lo n = true →
    (∀ a, Memory.read m a = Memory.read n a) → m = n
  | [], [], _, _, _, _ => rfl
  | [], (k, b) :: n, lo, _, hn, h => by
    simp only [Memory.wfFrom, Bool.and_eq_true, decide_eq_true_eq] at hn
    have := h k
    simp [Memory.read] at this
    exact absurd this.symm hn.1.2
  | (k, b) :: m, [], lo, hm, _, h => by
    simp only [Memory.wfFrom, Bool.and_eq_true, decide_eq_true_eq] at hm
    have := h k
    simp [Memory.read] at this
    exact absurd this hm.1.2
  | (k, b) :: m, (l, c) :: n, lo, hm, hn, h => by
    simp only [Memory.wfFrom, Bool.and_eq_true, decide_eq_true_eq] at hm hn
    have hk := h k
    have hl := h l
    have bm := fun {x} (hx : x < k + 1) => Memory.read_below hm.2 hx
    have bn := fun {x} (hx : x < l + 1) => Memory.read_below hn.2 hx
    have hkl : k = l := by
      rcases Nat.lt_trichotomy k l with hlt | heq | hgt
      · have hne : k ≠ l := by omega
        simp only [Memory.read, if_true, hne, if_false, bn (x := k) (by omega)] at hk
        exact absurd hk hm.1.2
      · exact heq
      · have hne : l ≠ k := by omega
        simp only [Memory.read, if_true, hne, if_false, bm (x := l) (by omega)] at hl
        exact absurd hl.symm hn.1.2
    subst hkl
    have hb : b = c := by simpa [Memory.read] using hk
    subst hb
    have : m = n := Memory.ext_wf hm.2 hn.2 fun a => by
      by_cases ha : a = k
      · rw [bm (x := a) (by omega), bn (x := a) (by omega)]
      · simpa [Memory.read, ha] using h a
    rw [this]

end Sys2Proof.Machine
end

