-- ==== Sys2Proof/Laws/State.lean ====
section
/-! SUPPORT. One lemma per field per named update, each true by definition, so that no later proof unfolds a record
update. A write to one register keeps every other component; inside its own component simp reads the field off. -/

namespace Sys2Proof.Machine

@[simp] theorem State.setA_cpu (s : State) (v : Byte) : (s.setA v).cpu = { s.cpu with a := v } := rfl
@[simp] theorem State.setA_ppu (s : State) (v : Byte) : (s.setA v).ppu = s.ppu := rfl
@[simp] theorem State.setA_joy (s : State) (v : Byte) : (s.setA v).joy = s.joy := rfl
@[simp] theorem State.setA_cart (s : State) (v : Byte) : (s.setA v).cart = s.cart := rfl
@[simp] theorem State.setA_ram (s : State) (v : Byte) : (s.setA v).ram = s.ram := rfl
@[simp] theorem State.setA_fb (s : State) (v : Byte) : (s.setA v).fb = s.fb := rfl
@[simp] theorem State.setA_halted (s : State) (v : Byte) : (s.setA v).halted = s.halted := rfl
@[simp] theorem State.setA_phase (s : State) (v : Byte) : (s.setA v).phase = s.phase := rfl
@[simp] theorem State.setA_writeMode (s : State) (v : Byte) : (s.setA v).writeMode = s.writeMode := rfl

@[simp] theorem State.setX_cpu (s : State) (v : Byte) : (s.setX v).cpu = { s.cpu with x := v } := rfl
@[simp] theorem State.setX_ppu (s : State) (v : Byte) : (s.setX v).ppu = s.ppu := rfl
@[simp] theorem State.setX_joy (s : State) (v : Byte) : (s.setX v).joy = s.joy := rfl
@[simp] theorem State.setX_cart (s : State) (v : Byte) : (s.setX v).cart = s.cart := rfl
@[simp] theorem State.setX_ram (s : State) (v : Byte) : (s.setX v).ram = s.ram := rfl
@[simp] theorem State.setX_fb (s : State) (v : Byte) : (s.setX v).fb = s.fb := rfl
@[simp] theorem State.setX_halted (s : State) (v : Byte) : (s.setX v).halted = s.halted := rfl
@[simp] theorem State.setX_phase (s : State) (v : Byte) : (s.setX v).phase = s.phase := rfl
@[simp] theorem State.setX_writeMode (s : State) (v : Byte) : (s.setX v).writeMode = s.writeMode := rfl

@[simp] theorem State.setY_cpu (s : State) (v : Byte) : (s.setY v).cpu = { s.cpu with y := v } := rfl
@[simp] theorem State.setY_ppu (s : State) (v : Byte) : (s.setY v).ppu = s.ppu := rfl
@[simp] theorem State.setY_joy (s : State) (v : Byte) : (s.setY v).joy = s.joy := rfl
@[simp] theorem State.setY_cart (s : State) (v : Byte) : (s.setY v).cart = s.cart := rfl
@[simp] theorem State.setY_ram (s : State) (v : Byte) : (s.setY v).ram = s.ram := rfl
@[simp] theorem State.setY_fb (s : State) (v : Byte) : (s.setY v).fb = s.fb := rfl
@[simp] theorem State.setY_halted (s : State) (v : Byte) : (s.setY v).halted = s.halted := rfl
@[simp] theorem State.setY_phase (s : State) (v : Byte) : (s.setY v).phase = s.phase := rfl
@[simp] theorem State.setY_writeMode (s : State) (v : Byte) : (s.setY v).writeMode = s.writeMode := rfl

@[simp] theorem State.setS_cpu (s : State) (v : Byte) : (s.setS v).cpu = { s.cpu with s := v } := rfl
@[simp] theorem State.setS_ppu (s : State) (v : Byte) : (s.setS v).ppu = s.ppu := rfl
@[simp] theorem State.setS_joy (s : State) (v : Byte) : (s.setS v).joy = s.joy := rfl
@[simp] theorem State.setS_cart (s : State) (v : Byte) : (s.setS v).cart = s.cart := rfl
@[simp] theorem State.setS_ram (s : State) (v : Byte) : (s.setS v).ram = s.ram := rfl
@[simp] theorem State.setS_fb (s : State) (v : Byte) : (s.setS v).fb = s.fb := rfl
@[simp] theorem State.setS_halted (s : State) (v : Byte) : (s.setS v).halted = s.halted := rfl
@[simp] theorem State.setS_phase (s : State) (v : Byte) : (s.setS v).phase = s.phase := rfl
@[simp] theorem State.setS_writeMode (s : State) (v : Byte) : (s.setS v).writeMode = s.writeMode := rfl

@[simp] theorem State.setPc_cpu (s : State) (v : Word) : (s.setPc v).cpu = { s.cpu with pc := v } := rfl
@[simp] theorem State.setPc_ppu (s : State) (v : Word) : (s.setPc v).ppu = s.ppu := rfl
@[simp] theorem State.setPc_joy (s : State) (v : Word) : (s.setPc v).joy = s.joy := rfl
@[simp] theorem State.setPc_cart (s : State) (v : Word) : (s.setPc v).cart = s.cart := rfl
@[simp] theorem State.setPc_ram (s : State) (v : Word) : (s.setPc v).ram = s.ram := rfl
@[simp] theorem State.setPc_fb (s : State) (v : Word) : (s.setPc v).fb = s.fb := rfl
@[simp] theorem State.setPc_halted (s : State) (v : Word) : (s.setPc v).halted = s.halted := rfl
@[simp] theorem State.setPc_phase (s : State) (v : Word) : (s.setPc v).phase = s.phase := rfl
@[simp] theorem State.setPc_writeMode (s : State) (v : Word) : (s.setPc v).writeMode = s.writeMode := rfl

@[simp] theorem State.setP_cpu (s : State) (v : Byte) : (s.setP v).cpu = { s.cpu with p := v } := rfl
@[simp] theorem State.setP_ppu (s : State) (v : Byte) : (s.setP v).ppu = s.ppu := rfl
@[simp] theorem State.setP_joy (s : State) (v : Byte) : (s.setP v).joy = s.joy := rfl
@[simp] theorem State.setP_cart (s : State) (v : Byte) : (s.setP v).cart = s.cart := rfl
@[simp] theorem State.setP_ram (s : State) (v : Byte) : (s.setP v).ram = s.ram := rfl
@[simp] theorem State.setP_fb (s : State) (v : Byte) : (s.setP v).fb = s.fb := rfl
@[simp] theorem State.setP_halted (s : State) (v : Byte) : (s.setP v).halted = s.halted := rfl
@[simp] theorem State.setP_phase (s : State) (v : Byte) : (s.setP v).phase = s.phase := rfl
@[simp] theorem State.setP_writeMode (s : State) (v : Byte) : (s.setP v).writeMode = s.writeMode := rfl

@[simp] theorem State.setRam_cpu (s : State) (v : Memory) : (s.setRam v).cpu = s.cpu := rfl
@[simp] theorem State.setRam_ppu (s : State) (v : Memory) : (s.setRam v).ppu = s.ppu := rfl
@[simp] theorem State.setRam_joy (s : State) (v : Memory) : (s.setRam v).joy = s.joy := rfl
@[simp] theorem State.setRam_cart (s : State) (v : Memory) : (s.setRam v).cart = s.cart := rfl
@[simp] theorem State.setRam_ram (s : State) (v : Memory) : (s.setRam v).ram = v := rfl
@[simp] theorem State.setRam_fb (s : State) (v : Memory) : (s.setRam v).fb = s.fb := rfl
@[simp] theorem State.setRam_halted (s : State) (v : Memory) : (s.setRam v).halted = s.halted := rfl
@[simp] theorem State.setRam_phase (s : State) (v : Memory) : (s.setRam v).phase = s.phase := rfl
@[simp] theorem State.setRam_writeMode (s : State) (v : Memory) : (s.setRam v).writeMode = s.writeMode := rfl

@[simp] theorem State.setFb_cpu (s : State) (v : Memory) : (s.setFb v).cpu = s.cpu := rfl
@[simp] theorem State.setFb_ppu (s : State) (v : Memory) : (s.setFb v).ppu = s.ppu := rfl
@[simp] theorem State.setFb_joy (s : State) (v : Memory) : (s.setFb v).joy = s.joy := rfl
@[simp] theorem State.setFb_cart (s : State) (v : Memory) : (s.setFb v).cart = s.cart := rfl
@[simp] theorem State.setFb_ram (s : State) (v : Memory) : (s.setFb v).ram = s.ram := rfl
@[simp] theorem State.setFb_fb (s : State) (v : Memory) : (s.setFb v).fb = v := rfl
@[simp] theorem State.setFb_halted (s : State) (v : Memory) : (s.setFb v).halted = s.halted := rfl
@[simp] theorem State.setFb_phase (s : State) (v : Memory) : (s.setFb v).phase = s.phase := rfl
@[simp] theorem State.setFb_writeMode (s : State) (v : Memory) : (s.setFb v).writeMode = s.writeMode := rfl

@[simp] theorem State.setPpu_cpu (s : State) (v : Ppu) : (s.setPpu v).cpu = s.cpu := rfl
@[simp] theorem State.setPpu_ppu (s : State) (v : Ppu) : (s.setPpu v).ppu = v := rfl
@[simp] theorem State.setPpu_joy (s : State) (v : Ppu) : (s.setPpu v).joy = s.joy := rfl
@[simp] theorem State.setPpu_cart (s : State) (v : Ppu) : (s.setPpu v).cart = s.cart := rfl
@[simp] theorem State.setPpu_ram (s : State) (v : Ppu) : (s.setPpu v).ram = s.ram := rfl
@[simp] theorem State.setPpu_fb (s : State) (v : Ppu) : (s.setPpu v).fb = s.fb := rfl
@[simp] theorem State.setPpu_halted (s : State) (v : Ppu) : (s.setPpu v).halted = s.halted := rfl
@[simp] theorem State.setPpu_phase (s : State) (v : Ppu) : (s.setPpu v).phase = s.phase := rfl
@[simp] theorem State.setPpu_writeMode (s : State) (v : Ppu) : (s.setPpu v).writeMode = s.writeMode := rfl

@[simp] theorem State.setJoy_cpu (s : State) (v : Joypads) : (s.setJoy v).cpu = s.cpu := rfl
@[simp] theorem State.setJoy_ppu (s : State) (v : Joypads) : (s.setJoy v).ppu = s.ppu := rfl
@[simp] theorem State.setJoy_joy (s : State) (v : Joypads) : (s.setJoy v).joy = v := rfl
@[simp] theorem State.setJoy_cart (s : State) (v : Joypads) : (s.setJoy v).cart = s.cart := rfl
@[simp] theorem State.setJoy_ram (s : State) (v : Joypads) : (s.setJoy v).ram = s.ram := rfl
@[simp] theorem State.setJoy_fb (s : State) (v : Joypads) : (s.setJoy v).fb = s.fb := rfl
@[simp] theorem State.setJoy_halted (s : State) (v : Joypads) : (s.setJoy v).halted = s.halted := rfl
@[simp] theorem State.setJoy_phase (s : State) (v : Joypads) : (s.setJoy v).phase = s.phase := rfl
@[simp] theorem State.setJoy_writeMode (s : State) (v : Joypads) : (s.setJoy v).writeMode = s.writeMode := rfl

@[simp] theorem State.setChr_cpu (s : State) (v : Memory) : (s.setChr v).cpu = s.cpu := rfl
@[simp] theorem State.setChr_ppu (s : State) (v : Memory) : (s.setChr v).ppu = s.ppu := rfl
@[simp] theorem State.setChr_joy (s : State) (v : Memory) : (s.setChr v).joy = s.joy := rfl
@[simp] theorem State.setChr_cart (s : State) (v : Memory) : (s.setChr v).cart = { s.cart with chr := v } := rfl
@[simp] theorem State.setChr_ram (s : State) (v : Memory) : (s.setChr v).ram = s.ram := rfl
@[simp] theorem State.setChr_fb (s : State) (v : Memory) : (s.setChr v).fb = s.fb := rfl
@[simp] theorem State.setChr_halted (s : State) (v : Memory) : (s.setChr v).halted = s.halted := rfl
@[simp] theorem State.setChr_phase (s : State) (v : Memory) : (s.setChr v).phase = s.phase := rfl
@[simp] theorem State.setChr_writeMode (s : State) (v : Memory) : (s.setChr v).writeMode = s.writeMode := rfl

@[simp] theorem State.setOam_cpu (s : State) (v : Memory) : (s.setOam v).cpu = s.cpu := rfl
@[simp] theorem State.setOam_ppu (s : State) (v : Memory) : (s.setOam v).ppu = { s.ppu with oam := v } := rfl
@[simp] theorem State.setOam_joy (s : State) (v : Memory) : (s.setOam v).joy = s.joy := rfl
@[simp] theorem State.setOam_cart (s : State) (v : Memory) : (s.setOam v).cart = s.cart := rfl
@[simp] theorem State.setOam_ram (s : State) (v : Memory) : (s.setOam v).ram = s.ram := rfl
@[simp] theorem State.setOam_fb (s : State) (v : Memory) : (s.setOam v).fb = s.fb := rfl
@[simp] theorem State.setOam_halted (s : State) (v : Memory) : (s.setOam v).halted = s.halted := rfl
@[simp] theorem State.setOam_phase (s : State) (v : Memory) : (s.setOam v).phase = s.phase := rfl
@[simp] theorem State.setOam_writeMode (s : State) (v : Memory) : (s.setOam v).writeMode = s.writeMode := rfl

@[simp] theorem State.setFlag_cpu (s : State) (f : Flag) (on : Bool) : (s.setFlag f on).cpu = { s.cpu with p := withFlag s.cpu.p f on } := rfl
@[simp] theorem State.setFlag_ppu (s : State) (f : Flag) (on : Bool) : (s.setFlag f on).ppu = s.ppu := rfl
@[simp] theorem State.setFlag_joy (s : State) (f : Flag) (on : Bool) : (s.setFlag f on).joy = s.joy := rfl
@[simp] theorem State.setFlag_cart (s : State) (f : Flag) (on : Bool) : (s.setFlag f on).cart = s.cart := rfl
@[simp] theorem State.setFlag_ram (s : State) (f : Flag) (on : Bool) : (s.setFlag f on).ram = s.ram := rfl
@[simp] theorem State.setFlag_fb (s : State) (f : Flag) (on : Bool) : (s.setFlag f on).fb = s.fb := rfl
@[simp] theorem State.setFlag_halted (s : State) (f : Flag) (on : Bool) : (s.setFlag f on).halted = s.halted := rfl
@[simp] theorem State.setFlag_phase (s : State) (f : Flag) (on : Bool) : (s.setFlag f on).phase = s.phase := rfl
@[simp] theorem State.setFlag_writeMode (s : State) (f : Flag) (on : Bool) : (s.setFlag f on).writeMode = s.writeMode := rfl

@[simp] theorem setZN_cpu (v : Byte) (s : State) : (setZN v s).cpu = { s.cpu with p := withFlag (withFlag s.cpu.p .z (v == 0)) .n (bit v 7) } := rfl
@[simp] theorem setZN_ppu (v : Byte) (s : State) : (setZN v s).ppu = s.ppu := rfl
@[simp] theorem setZN_joy (v : Byte) (s : State) : (setZN v s).joy = s.joy := rfl
@[simp] theorem setZN_cart (v : Byte) (s : State) : (setZN v s).cart = s.cart := rfl
@[simp] theorem setZN_ram (v : Byte) (s : State) : (setZN v s).ram = s.ram := rfl
@[simp] theorem setZN_fb (v : Byte) (s : State) : (setZN v s).fb = s.fb := rfl
@[simp] theorem setZN_halted (v : Byte) (s : State) : (setZN v s).halted = s.halted := rfl
@[simp] theorem setZN_phase (v : Byte) (s : State) : (setZN v s).phase = s.phase := rfl
@[simp] theorem setZN_writeMode (v : Byte) (s : State) : (setZN v s).writeMode = s.writeMode := rfl

end Sys2Proof.Machine
end

