-- ==== Sys2Proof/Laws/Bus.lean ====
section
/-! SUPPORT. What the bus and the PPU port can do: a read touches only the PPU's port registers and the joypad shift
registers; a write never touches the CPU, the frame buffer, the counter or the PRG store. -/

namespace Sys2Proof.Machine

/-! The indices of the stores stay inside them. -/

theorem ramIndex_lt (a : Word) : ramIndex a < 2048 := Nat.mod_lt _ (by decide)

theorem nametableOf_lt (m : Mirroring) {q : Nat} (h : q < 4) : nametableOf m q < 2 := by
  cases m <;> simp only [nametableOf] <;> omega

theorem paletteSlot_lt (a : Nat) : paletteSlot a < 32 := by
  unfold paletteSlot; split <;> omega

/-- Everything the PPU decoder can answer (R81–R87). -/
theorem vramPlace_cases (m : Mirroring) (addr : Nat) :
    (∃ i, vramPlace m addr = .chr i ∧ i < 0x2000 ∧ i = addr % 0x4000) ∨
    (∃ i, vramPlace m addr = .nt i ∧ i < 2048 ∧ 0x2000 ≤ addr % 0x4000 ∧ addr % 0x4000 < 0x3F00) ∨
    (∃ i, vramPlace m addr = .pal i ∧ i < 32 ∧ 0x3F00 ≤ addr % 0x4000 ∧ i = paletteSlot (addr % 0x4000)) := by
  unfold vramPlace
  by_cases h1 : addr % 0x4000 < 0x2000
  · exact .inl ⟨_, by simp [h1], h1, rfl⟩
  · by_cases h2 : addr % 0x4000 < 0x3F00
    · refine .inr (.inl ⟨_, by simp [h1, h2]; rfl, ?_, by omega, h2⟩)
      have := nametableOf_lt m (q := addr % 16384 / 1024 % 4) (Nat.mod_lt _ (by decide))
      omega
    · exact .inr (.inr ⟨_, by simp [h1, h2], paletteSlot_lt _, by omega, rfl⟩)

/-- What a port read may change of the PPU: vblank, the write toggle, the latch and the data port's address. -/
abbrev Ppu.SamePortRead (p q : Ppu) : Prop :=
  q = { p with vblank := q.vblank, w := q.w, dataLatch := q.dataLatch, vramAddr := q.vramAddr }

/-- A port read changes at most those four registers (R76, R230). -/
theorem ppuRegRead_state (s : State) (r : Port) :
    ∃ q, (ppuRegRead s r).2 = s.setPpu q ∧ s.ppu.SamePortRead q := by
  cases r
  case status => exact ⟨_, rfl, rfl⟩
  case vramData => exact ⟨_, rfl, rfl⟩
  all_goals exact ⟨s.ppu, rfl, rfl⟩

/-- A bus read changes at most the port registers and the joypad shift registers (R76). -/
theorem busRead_state (s : State) (a : Word) :
    ∃ q j0 j1, (busRead s a).2 = (s.setPpu q).setJoy { s.joy with shift0 := j0, shift1 := j1 } ∧ s.ppu.SamePortRead q := by
  unfold busRead
  cases windowOf a
  case ppu =>
    obtain ⟨q, hq, hs⟩ := ppuRegRead_state s (portOf a.toNat)
    exact ⟨q, s.joy.shift0, s.joy.shift1, hq, hs⟩
  case apu =>
    cases h : apuPortOf a.toNat
    case joy0 => exact ⟨s.ppu, _, s.joy.shift1, rfl, rfl⟩
    case joy1 => exact ⟨s.ppu, s.joy.shift0, _, rfl, rfl⟩
    all_goals exact ⟨s.ppu, s.joy.shift0, s.joy.shift1, rfl, rfl⟩
  all_goals exact ⟨s.ppu, s.joy.shift0, s.joy.shift1, rfl, rfl⟩

@[simp] theorem busRead_cpu (s : State) (a : Word) : (busRead s a).2.cpu = s.cpu := by
  obtain ⟨q, j0, j1, h, -⟩ := busRead_state s a; simp [h]

@[simp] theorem busRead_cart (s : State) (a : Word) : (busRead s a).2.cart = s.cart := by
  obtain ⟨q, j0, j1, h, -⟩ := busRead_state s a; simp [h]

@[simp] theorem busRead_ram (s : State) (a : Word) : (busRead s a).2.ram = s.ram := by
  obtain ⟨q, j0, j1, h, -⟩ := busRead_state s a; simp [h]

@[simp] theorem busRead_fb (s : State) (a : Word) : (busRead s a).2.fb = s.fb := by
  obtain ⟨q, j0, j1, h, -⟩ := busRead_state s a; simp [h]

@[simp] theorem busRead_halted (s : State) (a : Word) : (busRead s a).2.halted = s.halted := by
  obtain ⟨q, j0, j1, h, -⟩ := busRead_state s a; simp [h]

@[simp] theorem busRead_phase (s : State) (a : Word) : (busRead s a).2.phase = s.phase := by
  obtain ⟨q, j0, j1, h, -⟩ := busRead_state s a; simp [h]

@[simp] theorem busRead_writeMode (s : State) (a : Word) : (busRead s a).2.writeMode = s.writeMode := by
  obtain ⟨q, j0, j1, h, -⟩ := busRead_state s a; simp [h]

theorem busRead_ppu (s : State) (a : Word) : s.ppu.SamePortRead (busRead s a).2.ppu := by
  obtain ⟨q, j0, j1, h, hq⟩ := busRead_state s a; simpa [h] using hq

theorem busRead_joy (s : State) (a : Word) :
    (busRead s a).2.joy.state0 = s.joy.state0 ∧ (busRead s a).2.joy.state1 = s.joy.state1 := by
  obtain ⟨q, j0, j1, h, -⟩ := busRead_state s a; simp [h]

/-- A read of work RAM changes nothing (R63). -/
theorem busRead_of_ram {a : Word} (h : windowOf a = .ram) (s : State) :
    busRead s a = (Memory.read s.ram (ramIndex a), s) := by simp [busRead, h]

/-- A read of PRG ROM changes nothing (R66). -/
theorem busRead_of_prg {a : Word} (h : windowOf a = .prg) (s : State) :
    busRead s a = (prgRead s.cart a, s) := by simp [busRead, h]

/-- An undecoded read returns 0 and changes nothing (R71). -/
theorem busRead_of_undecoded {a : Word} (h : windowOf a = .undecoded) (s : State) : busRead s a = (0, s) := by
  simp [busRead, h]

/-- A zero-page or stack address is in work RAM, at its own index (R77). -/
theorem windowOf_low {a : Word} (h : a.toNat < 0x0800) : windowOf a = .ram ∧ ramIndex a = a.toNat := by
  constructor
  · unfold windowOf; rw [if_pos]; omega
  · exact Nat.mod_eq_of_lt h

@[simp] theorem zext_toNat (b : Byte) : (BitVec.setWidth 16 b).toNat = b.toNat := by
  rw [BitVec.toNat_setWidth]; exact Nat.mod_eq_of_lt (by have := b.isLt; omega)

/-- What a bus write leaves alone, whatever it writes (R2, R28, R35, R41–R44). -/
structure WriteKeeps (s t : State) : Prop where
  cpu : t.cpu = s.cpu
  fb : t.fb = s.fb
  halted : t.halted = s.halted
  phase : t.phase = s.phase
  writeMode : t.writeMode = s.writeMode
  cart : t.cart = { s.cart with chr := t.cart.chr }
  chrRom : s.cart.chrIsRam = false → t.cart.chr = s.cart.chr
  scanline : t.ppu.scanline = s.ppu.scanline
  spr0 : t.ppu.spr0 = s.ppu.spr0
  ovf : t.ppu.ovf = s.ppu.ovf
  joyState : t.joy.state0 = s.joy.state0 ∧ t.joy.state1 = s.joy.state1

theorem WriteKeeps.refl (s : State) : WriteKeeps s s :=
  ⟨rfl, rfl, rfl, rfl, rfl, rfl, fun _ => rfl, rfl, rfl, rfl, rfl, rfl⟩

theorem WriteKeeps.trans {s t u : State} (h : WriteKeeps s t) (k : WriteKeeps t u) : WriteKeeps s u where
  cpu := k.cpu.trans h.cpu
  fb := k.fb.trans h.fb
  halted := k.halted.trans h.halted
  phase := k.phase.trans h.phase
  writeMode := k.writeMode.trans h.writeMode
  cart := by rw [k.cart, h.cart]
  chrRom := fun hr => (k.chrRom (by rw [h.cart]; exact hr)).trans (h.chrRom hr)
  scanline := k.scanline.trans h.scanline
  spr0 := k.spr0.trans h.spr0
  ovf := k.ovf.trans h.ovf
  joyState := ⟨k.joyState.1.trans h.joyState.1, k.joyState.2.trans h.joyState.2⟩

theorem vramWrite_keeps (s : State) (addr : Nat) (v : Byte) : WriteKeeps s (vramWrite s addr v) := by
  unfold vramWrite
  rcases vramPlace_cases s.cart.mirroring addr with ⟨i, h, -⟩ | ⟨i, h, -⟩ | ⟨i, h, -⟩ <;> simp only [h]
  · by_cases hr : s.cart.chrIsRam = true <;> simp only [hr, if_true, if_false, Bool.false_eq_true]
    · constructor <;> simp [hr]
    · exact .refl s
  · constructor <;> simp
  · constructor <;> simp

theorem ppuRegWrite_keeps (s : State) (r : Port) (v : Byte) : WriteKeeps s (ppuRegWrite s r v) := by
  cases r <;> simp only [ppuRegWrite]
  case vramData =>
    refine (vramWrite_keeps s (s.ppu.vramAddr.toNat % 0x4000) v).trans ?_
    constructor <;> simp [advanceVramAddr]
  case scroll => split <;> constructor <;> simp [bufferFirst]
  case vramAddress => split <;> constructor <;> simp [bufferFirst]
  all_goals constructor <;> simp

theorem busRead_keeps (s : State) (a : Word) : WriteKeeps s (busRead s a).2 := by
  obtain ⟨q, j0, j1, h, hq⟩ := busRead_state s a
  rw [h]
  constructor <;> simp <;> rw [hq]

theorem oamDmaFrom_keeps (page : Byte) : ∀ (n i : Nat) (s : State), WriteKeeps s (oamDmaFrom page n i s)
  | 0, _, s => .refl s
  | n + 1, i, s => by
    refine ((busRead_keeps s (dmaSource page i)).trans ?_).trans (oamDmaFrom_keeps page n (i + 1) _)
    constructor <;> simp

/-- ONE INVERSION FOR A BUS WRITE: it goes on with everything of `WriteKeeps` kept, or halts with the violation. -/
theorem busWrite_cases (s : State) (a : Word) (v : Byte) :
    (∃ t, busWrite s a v = .next t ∧ WriteKeeps s t) ∨
    (busWrite s a v = .fault (.fatal (.busWriteViolation a v)) ∧ s.writeMode = .halt ∧ 0x4018 ≤ a.toNat) := by
  have violation : 0x4018 ≤ a.toNat →
      (∃ t, writeViolation s a v = .next t ∧ WriteKeeps s t) ∨
      (writeViolation s a v = .fault (.fatal (.busWriteViolation a v)) ∧ s.writeMode = .halt ∧ 0x4018 ≤ a.toNat) := by
    intro ha
    unfold writeViolation
    cases hm : s.writeMode
    · exact .inr ⟨rfl, rfl, ha⟩
    · exact .inl ⟨s, rfl, .refl s⟩
  unfold busWrite
  cases hw : windowOf a
  case ram => exact .inl ⟨_, rfl, by constructor <;> simp⟩
  case ppu => exact .inl ⟨_, rfl, ppuRegWrite_keeps s _ v⟩
  case apu =>
    refine .inl ⟨_, rfl, ?_⟩
    cases h : apuPortOf a.toNat <;> simp only [apuWrite]
    case dma => exact oamDmaFrom_keeps v 256 0 s
    case joy0 => constructor <;> simp [joyReload]
    all_goals exact .refl s
  case undecoded => exact violation (by unfold windowOf at hw; split_ifs at hw; omega)
  case prg => exact violation (by unfold windowOf at hw; split_ifs at hw; omega)

/-- A write below 0x4018 goes on (R62). -/
theorem busWrite_completes {s : State} {a : Word} (v : Byte) (h : a.toNat ≤ 0x4017) :
    ∃ t, busWrite s a v = .next t ∧ WriteKeeps s t := by
  rcases busWrite_cases s a v with h1 | ⟨-, -, h2⟩
  · exact h1
  · omega

/-- A write to work RAM stores the byte and changes nothing else (R63). -/
theorem busWrite_of_ram {a : Word} (h : windowOf a = .ram) (s : State) (v : Byte) :
    busWrite s a v = .next (s.setRam (Memory.write s.ram (ramIndex a) v)) := by simp [busWrite, h]

/-! No access looks at the CPU registers: with other registers it gives the same byte and moves the same state. -/

theorem ppuRegRead_withCpu (s : State) (r : Port) (c : Cpu) :
    ppuRegRead { s with cpu := c } r = ((ppuRegRead s r).1, { (ppuRegRead s r).2 with cpu := c }) := by
  cases r <;> rfl

theorem busRead_withCpu (s : State) (a : Word) (c : Cpu) :
    busRead { s with cpu := c } a = ((busRead s a).1, { (busRead s a).2 with cpu := c }) := by
  unfold busRead
  cases windowOf a
  case ppu => exact ppuRegRead_withCpu s _ c
  case apu => simp only; cases apuPortOf a.toNat <;> rfl
  all_goals rfl

theorem vramWrite_withCpu (s : State) (addr : Nat) (v : Byte) (c : Cpu) :
    vramWrite { s with cpu := c } addr v = { vramWrite s addr v with cpu := c } := by
  unfold vramWrite
  simp only
  cases vramPlace s.cart.mirroring addr
  case chr i => simp only; split <;> rfl
  all_goals rfl

theorem ppuRegWrite_withCpu (s : State) (r : Port) (v : Byte) (c : Cpu) :
    ppuRegWrite { s with cpu := c } r v = { ppuRegWrite s r v with cpu := c } := by
  cases r <;> simp only [ppuRegWrite]
  case vramData => rw [vramWrite_withCpu]; rfl
  case scroll => split <;> rfl
  case vramAddress => split <;> rfl
  all_goals rfl

theorem oamDmaFrom_withCpu (page : Byte) (c : Cpu) : ∀ (n i : Nat) (s : State),
    oamDmaFrom page n i { s with cpu := c } = { oamDmaFrom page n i s with cpu := c }
  | 0, _, _ => rfl
  | n + 1, i, s => by
    simp only [oamDmaFrom, busRead_withCpu]
    exact oamDmaFrom_withCpu page c n (i + 1)
      ((busRead s (dmaSource page i)).2.setOam
        (Memory.write (busRead s (dmaSource page i)).2.ppu.oam i (busRead s (dmaSource page i)).1))

theorem busWrite_withCpu {s t : State} {a : Word} {v : Byte} (h : busWrite s a v = .next t) (c : Cpu) :
    busWrite { s with cpu := c } a v = .next { t with cpu := c } := by
  unfold busWrite at h ⊢
  cases hw : windowOf a <;> simp only [hw] at h ⊢
  case ram => cases h; rfl
  case ppu => cases h; rw [ppuRegWrite_withCpu]
  case apu =>
    cases h
    cases apuPortOf a.toNat <;> simp only [apuWrite]
    case dma => simp only [oamDma, oamDmaFrom_withCpu]
    all_goals rfl
  all_goals
    unfold writeViolation at h ⊢
    simp only
    cases hm : s.writeMode <;> simp only [hm] at h ⊢
    · cases h
    · cases h; rw [hm]

end Sys2Proof.Machine
end

