-- ==== Sys2Proof/Laws/Flags.lean ====
section
/-! SUPPORT. Reading a flag after writing one, and the status bytes of pushes and pulls bit by bit. -/

namespace Sys2Proof.Machine

/-- A byte is given by its eight bits. -/
theorem byte_ext {p q : Byte} (h : ∀ f, flagOf p f = flagOf q f) : p = q := by
  have key : ∀ i, i < 8 → p.getLsbD i = q.getLsbD i := by
    intro i hi
    have := h .n; have := h .v; have := h .u; have := h .b
    have := h .d; have := h .i; have := h .z; have := h .c
    simp only [flagOf, Flag.position] at *
    interval_cases i <;> assumption
  exact BitVec.eq_of_getLsbD_eq key

/-- Writing one flag changes that flag only. -/
@[simp] theorem flagOf_withFlag (p : Byte) (f g : Flag) (on : Bool) :
    flagOf (withFlag p f on) g = if g = f then on else flagOf p g := by
  cases f <;> cases g <;> cases on <;> simp [flagOf, withFlag, Flag.mask, Flag.position]

@[simp] theorem flagOf_pushedByProgram (p : Byte) (f : Flag) :
    flagOf (pushedByProgram p) f = match f with | .u => true | .b => true | g => flagOf p g := by
  cases f <;> simp [flagOf, pushedByProgram, Flag.position]

@[simp] theorem flagOf_pulledStatus (p : Byte) (f : Flag) :
    flagOf (pulledStatus p) f = match f with | .u => true | .b => false | g => flagOf p g := by
  cases f <;> simp [flagOf, pulledStatus, Flag.position]

@[simp] theorem flagOf_statusForNmi (p : Byte) (f : Flag) :
    flagOf (statusForNmi p) f = match f with | .u => true | .b => false | .i => true | g => flagOf p g := by
  cases f <;> simp [flagOf, statusForNmi, Flag.position]

/-- What `SetZN` leaves in each flag (R14). -/
theorem flag_setZN (v : Byte) (s : State) (f : Flag) :
    (setZN v s).flag f = match f with | .z => v == 0 | .n => bit v 7 | g => s.flag g := by
  cases f <;> simp [State.flag]

theorem setZN_eq (v : Byte) (s : State) :
    setZN v s = s.setP (withFlag (withFlag s.cpu.p .z (v == 0)) .n (bit v 7)) := rfl

/-- A program-pushed status pulled again is the status itself, when U is 1 and B is 0 (R24, R211, R213). -/
theorem pulledStatus_pushedByProgram {p : Byte} (hu : flagOf p .u = true) (hb : flagOf p .b = false) :
    pulledStatus (pushedByProgram p) = p :=
  byte_ext fun f => by cases f <;> simp [hu, hb]

end Sys2Proof.Machine
end

