-- ==== Sys2Proof/Laws/Ops.lean ====
section
/-! SUPPORT. What the shared operations of Ops, Operands and Alu can do, said once each. -/

namespace Sys2Proof.Machine

/-! Chaining. -/

@[simp] theorem andThen_next (t : State) (f : State → Result) : andThen (.next t) f = f t := rfl
@[simp] theorem andThen_fault (e : Fault) (f : State → Result) : andThen (.fault e) f = .fault e := rfl
@[simp] theorem andThen_refused (e : Refusal) (f : State → Result) : andThen (.refused e) f = .refused e := rfl

/-- A chain that goes on went on at its first part. -/
theorem andThen_eq_next {r : Result} {f : State → Result} {u : State} (h : andThen r f = .next u) :
    ∃ t, r = .next t ∧ f t = .next u := by
  cases r with
  | next t => exact ⟨t, rfl, h⟩
  | fault e => cases h
  | refused e => cases h

/-! Bytes and words. -/

theorem wordOf_toNat (lo hi : Byte) : (wordOf lo hi).toNat = lo.toNat + 256 * hi.toNat := by
  have h := lo.isLt
  simp only [wordOf, BitVec.toNat_append, Nat.shiftLeft_eq]
  rw [Nat.mul_comm, ← Nat.two_pow_add_eq_or_of_lt h]
  omega

theorem loByte_toNat (w : Word) : (loByte w).toNat = w.toNat % 256 := by
  simp [loByte, BitVec.extractLsb'_toNat]

theorem hiByte_toNat (w : Word) : (hiByte w).toNat = w.toNat / 256 := by
  have := w.isLt
  simp only [hiByte, BitVec.extractLsb'_toNat, Nat.shiftRight_eq_div_pow]
  omega

@[simp] theorem wordOf_halves (w : Word) : wordOf (loByte w) (hiByte w) = w := by
  apply BitVec.eq_of_toNat_eq
  rw [wordOf_toNat, loByte_toNat, hiByte_toNat]
  omega

@[simp] theorem loByte_wordOf (lo hi : Byte) : loByte (wordOf lo hi) = lo := by
  have := lo.isLt
  apply BitVec.eq_of_toNat_eq
  rw [loByte_toNat, wordOf_toNat]
  omega

@[simp] theorem hiByte_wordOf (lo hi : Byte) : hiByte (wordOf lo hi) = hi := by
  have := lo.isLt
  apply BitVec.eq_of_toNat_eq
  rw [hiByte_toNat, wordOf_toNat]
  omega

/-- Bit 7 is the sign: set from 128 on. -/
theorem bit7_eq (v : Byte) : bit v 7 = decide (128 ≤ v.toNat) := by
  have : bit v 7 = v.msb := by simp [bit, BitVec.msb_eq_getLsbD_last]
  rw [this, BitVec.msb_eq_decide]

/-! The stack (R14, R21). -/

/-- The slot `S` points at is `RAM[0x0100 + S]`. -/
theorem ramIndex_stackAddr (p : Byte) : ramIndex (stackAddr p) = 256 + p.toNat := by
  have := p.isLt
  have h : (stackAddr p).toNat = 256 + p.toNat := by
    simp only [stackAddr, zext, BitVec.toNat_add, zext_toNat]
    have : (0x0100 : Word).toNat = 256 := by decide
    omega
  simp only [ramIndex, h]
  omega

theorem windowOf_stackAddr (p : Byte) : windowOf (stackAddr p) = .ram := by
  have := p.isLt
  refine (windowOf_low ?_).1
  simp only [stackAddr, zext, BitVec.toNat_add, zext_toNat]
  have : (0x0100 : Word).toNat = 256 := by decide
  omega

/-- A push is the bus write of R14 and cannot violate. -/
theorem push8_eq_busWrite (v : Byte) (s : State) :
    andThen (busWrite s (stackAddr s.cpu.s) v) (fun t => .next (t.setS (t.cpu.s - 1))) = .next (push8 v s) := by
  rw [busWrite_of_ram (windowOf_stackAddr _)]; rfl

/-- A pull is the bus read of R14 and has no side effect. -/
theorem pull8_eq_busRead (s : State) :
    pull8 s = busRead (s.setS (s.cpu.s + 1)) (stackAddr (s.cpu.s + 1)) := by
  rw [busRead_of_ram (windowOf_stackAddr _)]; rfl

theorem push8_eq (v : Byte) (s : State) :
    push8 v s = { s with cpu := { s.cpu with s := s.cpu.s - 1 }, ram := Memory.write s.ram (256 + s.cpu.s.toNat) v } := by
  simp [push8, ramIndex_stackAddr, State.setRam, State.setS]

theorem pull8_eq (s : State) :
    pull8 s = (Memory.read s.ram (256 + (s.cpu.s + 1).toNat), { s with cpu := { s.cpu with s := s.cpu.s + 1 } }) := by
  simp [pull8, ramIndex_stackAddr, State.setS]

@[simp] theorem push8_ppu (v : Byte) (s : State) : (push8 v s).ppu = s.ppu := rfl
@[simp] theorem push8_joy (v : Byte) (s : State) : (push8 v s).joy = s.joy := rfl
@[simp] theorem push8_cart (v : Byte) (s : State) : (push8 v s).cart = s.cart := rfl
@[simp] theorem push8_fb (v : Byte) (s : State) : (push8 v s).fb = s.fb := rfl
@[simp] theorem push8_halted (v : Byte) (s : State) : (push8 v s).halted = s.halted := rfl
@[simp] theorem push8_phase (v : Byte) (s : State) : (push8 v s).phase = s.phase := rfl
@[simp] theorem push8_writeMode (v : Byte) (s : State) : (push8 v s).writeMode = s.writeMode := rfl

theorem push8_keeps (v : Byte) (s : State) : WriteKeeps { s with cpu := { s.cpu with s := s.cpu.s - 1 } } (push8 v s) := by
  rw [push8_eq]; constructor <;> simp

/-- A pull right after a push gives the byte back and restores `S` (R14). -/
theorem pull8_push8 {s : State} (h : Memory.wf s.ram = true) (v : Byte) :
    (pull8 (push8 v s)).1 = v ∧ (pull8 (push8 v s)).2.cpu = s.cpu := by
  rw [pull8_eq, push8_eq]
  constructor
  · simp only [BitVec.sub_add_cancel]
    rw [Memory.read_write_wf h]; simp
  · simp

/-! Reads of a vector: the three words stand in the PRG window and reading them changes nothing (R314). -/

theorem windowOf_high {a : Word} (h : 0x8000 ≤ a.toNat) : windowOf a = .prg := by
  unfold windowOf
  rw [if_neg (by omega), if_neg (by omega), if_neg (by omega), if_pos h]

theorem readWord_of_prg {aLo aHi : Word} (hl : windowOf aLo = .prg) (hh : windowOf aHi = .prg) (s : State) :
    readWord aLo aHi s = (wordOf (prgRead s.cart aLo) (prgRead s.cart aHi), s) := by
  simp [readWord, busRead_of_prg hl, busRead_of_prg hh]

theorem readWord_of_ram {aLo aHi : Word} (hl : windowOf aLo = .ram) (hh : windowOf aHi = .ram) (s : State) :
    readWord aLo aHi s = (wordOf (Memory.read s.ram (ramIndex aLo)) (Memory.read s.ram (ramIndex aHi)), s) := by
  simp [readWord, busRead_of_ram hl, busRead_of_ram hh]

/-- The word at a vector whose two bytes are in PRG ROM. -/
theorem readVector_of_prg {vec : Word} (h : 0x8000 ≤ vec.toNat) (h' : vec.toNat ≤ 0xFFFE) (s : State) :
    readVector vec s = (wordOf (prgRead s.cart vec) (prgRead s.cart (vec + 1)), s) := by
  refine readWord_of_prg (windowOf_high h) (windowOf_high ?_) s
  rw [BitVec.toNat_add]
  have : (1 : Word).toNat = 1 := by decide
  omega

/-- Entering a handler, in full (R222, R310). -/
theorem enterHandler_eq {vec : Word} (h : 0x8000 ≤ vec.toNat) (h' : vec.toNat ≤ 0xFFFE) (ret : Word) (pushed live : Byte)
    (s : State) :
    enterHandler ret vec pushed live s =
      { push8 pushed (pushWord ret s) with
        cpu := { s.cpu with
          s := s.cpu.s - 3, p := live, pc := wordOf (prgRead s.cart vec) (prgRead s.cart (vec + 1)) } } := by
  have hs : s.cpu.s - 1 - 1 - 1 = s.cpu.s - 3 := by
    apply BitVec.eq_of_toNat_eq
    simp only [BitVec.toNat_sub]
    have h1 : (1 : Byte).toNat = 1 := by decide
    have h3 : (3 : Byte).toNat = 3 := by decide
    omega
  simp only [enterHandler, readVector_of_prg h h']
  simp only [pushWord, push8, State.setPc, State.setP, State.setS, State.setRam]
  rw [hs]

/-! The pointers of the indirect modes stand in zero page: reading them changes nothing (R122, R123). -/

theorem windowOf_zext (b : Byte) : windowOf (zext b) = .ram ∧ ramIndex (zext b) = b.toNat := by
  have := b.isLt
  have h := windowOf_low (a := zext b) (by simp only [zext, zext_toNat]; omega)
  exact ⟨h.1, h.2.trans (zext_toNat b)⟩

theorem eaIzx_eq (z : Byte) (s : State) :
    eaIzx z s = (wordOf (Memory.read s.ram (z + s.cpu.x).toNat) (Memory.read s.ram (z + s.cpu.x + 1).toNat), s) := by
  simp only [eaIzx, readWord_of_ram (windowOf_zext _).1 (windowOf_zext _).1, (windowOf_zext _).2]

theorem eaIzy_eq (z : Byte) (s : State) :
    eaIzy z s = (wordOf (Memory.read s.ram z.toNat) (Memory.read s.ram (z + 1).toNat) + zext s.cpu.y, s) := by
  simp only [eaIzy, readWord_of_ram (windowOf_zext _).1 (windowOf_zext _).1, (windowOf_zext _).2]

@[simp] theorem eaZp_state (z : Byte) (s : State) : (eaZp z s).2 = s := rfl
@[simp] theorem eaZpx_state (z : Byte) (s : State) : (eaZpx z s).2 = s := rfl
@[simp] theorem eaZpy_state (z : Byte) (s : State) : (eaZpy z s).2 = s := rfl
@[simp] theorem eaAbs_state (a : Word) (s : State) : (eaAbs a s).2 = s := rfl
@[simp] theorem eaAbx_state (a : Word) (s : State) : (eaAbx a s).2 = s := rfl
@[simp] theorem eaAby_state (a : Word) (s : State) : (eaAby a s).2 = s := rfl
@[simp] theorem eaIzx_state (z : Byte) (s : State) : (eaIzx z s).2 = s := by rw [eaIzx_eq]
@[simp] theorem eaIzy_state (z : Byte) (s : State) : (eaIzy z s).2 = s := by rw [eaIzy_eq]

/-- The two pointer reads of `JMP (a)` keep what a bus read keeps (R121). -/
theorem readWord_keeps (aLo aHi : Word) (s : State) : WriteKeeps s (readWord aLo aHi s).2 :=
  (busRead_keeps s aLo).trans (busRead_keeps _ aHi)

@[simp] theorem readWord_cpu (aLo aHi : Word) (s : State) : (readWord aLo aHi s).2.cpu = s.cpu := by simp [readWord]
@[simp] theorem readWord_ram (aLo aHi : Word) (s : State) : (readWord aLo aHi s).2.ram = s.ram := by simp [readWord]
@[simp] theorem readWord_cart (aLo aHi : Word) (s : State) : (readWord aLo aHi s).2.cart = s.cart := by simp [readWord]

/-! Arithmetic as numbers (R160, R175). -/

theorem adcByte_toNat (a m : Byte) (c : Bool) : (adcByte a m c).toNat = (a.toNat + m.toNat + carryIn c) % 256 := by
  simp [adcByte, adcSum]

theorem adcCarry_eq (a m : Byte) (c : Bool) : adcCarry a m c = decide (256 ≤ a.toNat + m.toNat + carryIn c) := by
  have := a.isLt; have := m.isLt
  have hc : carryIn c ≤ 1 := by cases c <;> decide
  unfold adcCarry adcSum
  generalize hk : a.toNat + m.toNat + carryIn c = t
  have : t < 512 := by omega
  by_cases h : 256 ≤ t
  · have : t / 256 = 1 := by omega
    simp [h, this]
  · have : t / 256 = 0 := by omega
    simp [h, this]

/-- A sign-bit test as numbers. -/
theorem bit7_and (u v : Byte) : bit (u &&& v) 7 = (bit u 7 && bit v 7) := by simp [bit]

theorem bit7_xor (u v : Byte) : bit (u ^^^ v) 7 = (bit u 7 ^^ bit v 7) := by simp [bit]

/-- A byte as a two's-complement number. -/
theorem byte_toInt (v : Byte) : v.toInt = if 128 ≤ v.toNat then (v.toNat : Int) - 256 else v.toNat := by
  rw [BitVec.toInt_eq_toNat_cond]
  by_cases h : 128 ≤ v.toNat
  · rw [if_neg (by omega), if_pos h]; norm_num
  · rw [if_pos (by omega), if_neg h]

/-- V says that the signed sum leaves −128..127 (R160, R175). -/
theorem adcOverflow_eq (a m : Byte) (c : Bool) :
    adcOverflow a m c = decide (a.toInt + m.toInt + carryIn c < -128 ∨ 127 < a.toInt + m.toInt + (carryIn c : Int)) := by
  have ha := a.isLt; have hm := m.isLt
  have hr := adcByte_toNat a m c
  have hc : carryIn c ≤ 1 := by cases c <;> decide
  unfold adcOverflow
  rw [bit7_and, bit7_xor, bit7_xor, bit7_eq, bit7_eq, bit7_eq, byte_toInt, byte_toInt, hr]
  generalize carryIn c = k at *
  generalize a.toNat = x at *
  generalize m.toNat = y at *
  by_cases h1 : 128 ≤ x <;> by_cases h2 : 128 ≤ y <;> by_cases h3 : 128 ≤ (x + y + k) % 256 <;>
    simp [h1, h2, h3] <;> omega

theorem compareCarry_eq (r m : Byte) : compareCarry r m = decide (m.toNat ≤ r.toNat) := by
  unfold compareCarry
  by_cases h : m.toNat ≤ r.toNat <;> simp [h]

end Sys2Proof.Machine
end

