-- ==== Sys2Proof/Laws/PerInstr.lean ====
section
/-! SUPPORT. One lemma per constructor of Instr about the instruction as data: it is well formed, it has the operand
bytes of its mode (30_encoding.md R110), and its opcode byte is none of the undefined ones (R126). -/

namespace Sys2Proof.Laws.EncodedForm

/-- The family's statement. -/
def Statement (i : Instr) : Prop :=
  i.wellFormed = true ∧ i.operandBytes.length = i.mode.operandBytes ∧ undefinedOpcode i.opcode = false

theorem ldaImm (v : Byte) : Statement (.ldaImm v) := ⟨rfl, rfl, by change undefinedOpcode 0xA9 = false; decide⟩
theorem ldaZp (z : Byte) : Statement (.ldaZp z) := ⟨rfl, rfl, by change undefinedOpcode 0xA5 = false; decide⟩
theorem ldaZpx (z : Byte) : Statement (.ldaZpx z) := ⟨rfl, rfl, by change undefinedOpcode 0xB5 = false; decide⟩
theorem ldaAbs (a : Word) : Statement (.ldaAbs a) := ⟨rfl, rfl, by change undefinedOpcode 0xAD = false; decide⟩
theorem ldaAbx (a : Word) : Statement (.ldaAbx a) := ⟨rfl, rfl, by change undefinedOpcode 0xBD = false; decide⟩
theorem ldaAby (a : Word) : Statement (.ldaAby a) := ⟨rfl, rfl, by change undefinedOpcode 0xB9 = false; decide⟩
theorem ldaIzx (z : Byte) : Statement (.ldaIzx z) := ⟨rfl, rfl, by change undefinedOpcode 0xA1 = false; decide⟩
theorem ldaIzy (z : Byte) : Statement (.ldaIzy z) := ⟨rfl, rfl, by change undefinedOpcode 0xB1 = false; decide⟩
theorem ldxImm (v : Byte) : Statement (.ldxImm v) := ⟨rfl, rfl, by change undefinedOpcode 0xA2 = false; decide⟩
theorem ldxZp (z : Byte) : Statement (.ldxZp z) := ⟨rfl, rfl, by change undefinedOpcode 0xA6 = false; decide⟩
theorem ldxZpy (z : Byte) : Statement (.ldxZpy z) := ⟨rfl, rfl, by change undefinedOpcode 0xB6 = false; decide⟩
theorem ldxAbs (a : Word) : Statement (.ldxAbs a) := ⟨rfl, rfl, by change undefinedOpcode 0xAE = false; decide⟩
theorem ldxAby (a : Word) : Statement (.ldxAby a) := ⟨rfl, rfl, by change undefinedOpcode 0xBE = false; decide⟩
theorem ldyImm (v : Byte) : Statement (.ldyImm v) := ⟨rfl, rfl, by change undefinedOpcode 0xA0 = false; decide⟩
theorem ldyZp (z : Byte) : Statement (.ldyZp z) := ⟨rfl, rfl, by change undefinedOpcode 0xA4 = false; decide⟩
theorem ldyZpx (z : Byte) : Statement (.ldyZpx z) := ⟨rfl, rfl, by change undefinedOpcode 0xB4 = false; decide⟩
theorem ldyAbs (a : Word) : Statement (.ldyAbs a) := ⟨rfl, rfl, by change undefinedOpcode 0xAC = false; decide⟩
theorem ldyAbx (a : Word) : Statement (.ldyAbx a) := ⟨rfl, rfl, by change undefinedOpcode 0xBC = false; decide⟩
theorem staZp (z : Byte) : Statement (.staZp z) := ⟨rfl, rfl, by change undefinedOpcode 0x85 = false; decide⟩
theorem staZpx (z : Byte) : Statement (.staZpx z) := ⟨rfl, rfl, by change undefinedOpcode 0x95 = false; decide⟩
theorem staAbs (a : Word) : Statement (.staAbs a) := ⟨rfl, rfl, by change undefinedOpcode 0x8D = false; decide⟩
theorem staAbx (a : Word) : Statement (.staAbx a) := ⟨rfl, rfl, by change undefinedOpcode 0x9D = false; decide⟩
theorem staAby (a : Word) : Statement (.staAby a) := ⟨rfl, rfl, by change undefinedOpcode 0x99 = false; decide⟩
theorem staIzx (z : Byte) : Statement (.staIzx z) := ⟨rfl, rfl, by change undefinedOpcode 0x81 = false; decide⟩
theorem staIzy (z : Byte) : Statement (.staIzy z) := ⟨rfl, rfl, by change undefinedOpcode 0x91 = false; decide⟩
theorem stxZp (z : Byte) : Statement (.stxZp z) := ⟨rfl, rfl, by change undefinedOpcode 0x86 = false; decide⟩
theorem stxZpy (z : Byte) : Statement (.stxZpy z) := ⟨rfl, rfl, by change undefinedOpcode 0x96 = false; decide⟩
theorem stxAbs (a : Word) : Statement (.stxAbs a) := ⟨rfl, rfl, by change undefinedOpcode 0x8E = false; decide⟩
theorem styZp (z : Byte) : Statement (.styZp z) := ⟨rfl, rfl, by change undefinedOpcode 0x84 = false; decide⟩
theorem styZpx (z : Byte) : Statement (.styZpx z) := ⟨rfl, rfl, by change undefinedOpcode 0x94 = false; decide⟩
theorem styAbs (a : Word) : Statement (.styAbs a) := ⟨rfl, rfl, by change undefinedOpcode 0x8C = false; decide⟩
theorem tax : Statement .tax := ⟨rfl, rfl, by change undefinedOpcode 0xAA = false; decide⟩
theorem tay : Statement .tay := ⟨rfl, rfl, by change undefinedOpcode 0xA8 = false; decide⟩
theorem txa : Statement .txa := ⟨rfl, rfl, by change undefinedOpcode 0x8A = false; decide⟩
theorem tya : Statement .tya := ⟨rfl, rfl, by change undefinedOpcode 0x98 = false; decide⟩
theorem tsx : Statement .tsx := ⟨rfl, rfl, by change undefinedOpcode 0xBA = false; decide⟩
theorem txs : Statement .txs := ⟨rfl, rfl, by change undefinedOpcode 0x9A = false; decide⟩
theorem adcImm (v : Byte) : Statement (.adcImm v) := ⟨rfl, rfl, by change undefinedOpcode 0x69 = false; decide⟩
theorem adcZp (z : Byte) : Statement (.adcZp z) := ⟨rfl, rfl, by change undefinedOpcode 0x65 = false; decide⟩
theorem adcZpx (z : Byte) : Statement (.adcZpx z) := ⟨rfl, rfl, by change undefinedOpcode 0x75 = false; decide⟩
theorem adcAbs (a : Word) : Statement (.adcAbs a) := ⟨rfl, rfl, by change undefinedOpcode 0x6D = false; decide⟩
theorem adcAbx (a : Word) : Statement (.adcAbx a) := ⟨rfl, rfl, by change undefinedOpcode 0x7D = false; decide⟩
theorem adcAby (a : Word) : Statement (.adcAby a) := ⟨rfl, rfl, by change undefinedOpcode 0x79 = false; decide⟩
theorem adcIzx (z : Byte) : Statement (.adcIzx z) := ⟨rfl, rfl, by change undefinedOpcode 0x61 = false; decide⟩
theorem adcIzy (z : Byte) : Statement (.adcIzy z) := ⟨rfl, rfl, by change undefinedOpcode 0x71 = false; decide⟩
theorem sbcImm (v : Byte) : Statement (.sbcImm v) := ⟨rfl, rfl, by change undefinedOpcode 0xE9 = false; decide⟩
theorem sbcZp (z : Byte) : Statement (.sbcZp z) := ⟨rfl, rfl, by change undefinedOpcode 0xE5 = false; decide⟩
theorem sbcZpx (z : Byte) : Statement (.sbcZpx z) := ⟨rfl, rfl, by change undefinedOpcode 0xF5 = false; decide⟩
theorem sbcAbs (a : Word) : Statement (.sbcAbs a) := ⟨rfl, rfl, by change undefinedOpcode 0xED = false; decide⟩
theorem sbcAbx (a : Word) : Statement (.sbcAbx a) := ⟨rfl, rfl, by change undefinedOpcode 0xFD = false; decide⟩
theorem sbcAby (a : Word) : Statement (.sbcAby a) := ⟨rfl, rfl, by change undefinedOpcode 0xF9 = false; decide⟩
theorem sbcIzx (z : Byte) : Statement (.sbcIzx z) := ⟨rfl, rfl, by change undefinedOpcode 0xE1 = false; decide⟩
theorem sbcIzy (z : Byte) : Statement (.sbcIzy z) := ⟨rfl, rfl, by change undefinedOpcode 0xF1 = false; decide⟩
theorem andImm (v : Byte) : Statement (.andImm v) := ⟨rfl, rfl, by change undefinedOpcode 0x29 = false; decide⟩
theorem andZp (z : Byte) : Statement (.andZp z) := ⟨rfl, rfl, by change undefinedOpcode 0x25 = false; decide⟩
theorem andZpx (z : Byte) : Statement (.andZpx z) := ⟨rfl, rfl, by change undefinedOpcode 0x35 = false; decide⟩
theorem andAbs (a : Word) : Statement (.andAbs a) := ⟨rfl, rfl, by change undefinedOpcode 0x2D = false; decide⟩
theorem andAbx (a : Word) : Statement (.andAbx a) := ⟨rfl, rfl, by change undefinedOpcode 0x3D = false; decide⟩
theorem andAby (a : Word) : Statement (.andAby a) := ⟨rfl, rfl, by change undefinedOpcode 0x39 = false; decide⟩
theorem andIzx (z : Byte) : Statement (.andIzx z) := ⟨rfl, rfl, by change undefinedOpcode 0x21 = false; decide⟩
theorem andIzy (z : Byte) : Statement (.andIzy z) := ⟨rfl, rfl, by change undefinedOpcode 0x31 = false; decide⟩
theorem oraImm (v : Byte) : Statement (.oraImm v) := ⟨rfl, rfl, by change undefinedOpcode 0x09 = false; decide⟩
theorem oraZp (z : Byte) : Statement (.oraZp z) := ⟨rfl, rfl, by change undefinedOpcode 0x05 = false; decide⟩
theorem oraZpx (z : Byte) : Statement (.oraZpx z) := ⟨rfl, rfl, by change undefinedOpcode 0x15 = false; decide⟩
theorem oraAbs (a : Word) : Statement (.oraAbs a) := ⟨rfl, rfl, by change undefinedOpcode 0x0D = false; decide⟩
theorem oraAbx (a : Word) : Statement (.oraAbx a) := ⟨rfl, rfl, by change undefinedOpcode 0x1D = false; decide⟩
theorem oraAby (a : Word) : Statement (.oraAby a) := ⟨rfl, rfl, by change undefinedOpcode 0x19 = false; decide⟩
theorem oraIzx (z : Byte) : Statement (.oraIzx z) := ⟨rfl, rfl, by change undefinedOpcode 0x01 = false; decide⟩
theorem oraIzy (z : Byte) : Statement (.oraIzy z) := ⟨rfl, rfl, by change undefinedOpcode 0x11 = false; decide⟩
theorem eorImm (v : Byte) : Statement (.eorImm v) := ⟨rfl, rfl, by change undefinedOpcode 0x49 = false; decide⟩
theorem eorZp (z : Byte) : Statement (.eorZp z) := ⟨rfl, rfl, by change undefinedOpcode 0x45 = false; decide⟩
theorem eorZpx (z : Byte) : Statement (.eorZpx z) := ⟨rfl, rfl, by change undefinedOpcode 0x55 = false; decide⟩
theorem eorAbs (a : Word) : Statement (.eorAbs a) := ⟨rfl, rfl, by change undefinedOpcode 0x4D = false; decide⟩
theorem eorAbx (a : Word) : Statement (.eorAbx a) := ⟨rfl, rfl, by change undefinedOpcode 0x5D = false; decide⟩
theorem eorAby (a : Word) : Statement (.eorAby a) := ⟨rfl, rfl, by change undefinedOpcode 0x59 = false; decide⟩
theorem eorIzx (z : Byte) : Statement (.eorIzx z) := ⟨rfl, rfl, by change undefinedOpcode 0x41 = false; decide⟩
theorem eorIzy (z : Byte) : Statement (.eorIzy z) := ⟨rfl, rfl, by change undefinedOpcode 0x51 = false; decide⟩
theorem cmpImm (v : Byte) : Statement (.cmpImm v) := ⟨rfl, rfl, by change undefinedOpcode 0xC9 = false; decide⟩
theorem cmpZp (z : Byte) : Statement (.cmpZp z) := ⟨rfl, rfl, by change undefinedOpcode 0xC5 = false; decide⟩
theorem cmpZpx (z : Byte) : Statement (.cmpZpx z) := ⟨rfl, rfl, by change undefinedOpcode 0xD5 = false; decide⟩
theorem cmpAbs (a : Word) : Statement (.cmpAbs a) := ⟨rfl, rfl, by change undefinedOpcode 0xCD = false; decide⟩
theorem cmpAbx (a : Word) : Statement (.cmpAbx a) := ⟨rfl, rfl, by change undefinedOpcode 0xDD = false; decide⟩
theorem cmpAby (a : Word) : Statement (.cmpAby a) := ⟨rfl, rfl, by change undefinedOpcode 0xD9 = false; decide⟩
theorem cmpIzx (z : Byte) : Statement (.cmpIzx z) := ⟨rfl, rfl, by change undefinedOpcode 0xC1 = false; decide⟩
theorem cmpIzy (z : Byte) : Statement (.cmpIzy z) := ⟨rfl, rfl, by change undefinedOpcode 0xD1 = false; decide⟩
theorem cpxImm (v : Byte) : Statement (.cpxImm v) := ⟨rfl, rfl, by change undefinedOpcode 0xE0 = false; decide⟩
theorem cpxZp (z : Byte) : Statement (.cpxZp z) := ⟨rfl, rfl, by change undefinedOpcode 0xE4 = false; decide⟩
theorem cpxAbs (a : Word) : Statement (.cpxAbs a) := ⟨rfl, rfl, by change undefinedOpcode 0xEC = false; decide⟩
theorem cpyImm (v : Byte) : Statement (.cpyImm v) := ⟨rfl, rfl, by change undefinedOpcode 0xC0 = false; decide⟩
theorem cpyZp (z : Byte) : Statement (.cpyZp z) := ⟨rfl, rfl, by change undefinedOpcode 0xC4 = false; decide⟩
theorem cpyAbs (a : Word) : Statement (.cpyAbs a) := ⟨rfl, rfl, by change undefinedOpcode 0xCC = false; decide⟩
theorem bitZp (z : Byte) : Statement (.bitZp z) := ⟨rfl, rfl, by change undefinedOpcode 0x24 = false; decide⟩
theorem bitAbs (a : Word) : Statement (.bitAbs a) := ⟨rfl, rfl, by change undefinedOpcode 0x2C = false; decide⟩
theorem incZp (z : Byte) : Statement (.incZp z) := ⟨rfl, rfl, by change undefinedOpcode 0xE6 = false; decide⟩
theorem incZpx (z : Byte) : Statement (.incZpx z) := ⟨rfl, rfl, by change undefinedOpcode 0xF6 = false; decide⟩
theorem incAbs (a : Word) : Statement (.incAbs a) := ⟨rfl, rfl, by change undefinedOpcode 0xEE = false; decide⟩
theorem incAbx (a : Word) : Statement (.incAbx a) := ⟨rfl, rfl, by change undefinedOpcode 0xFE = false; decide⟩
theorem decZp (z : Byte) : Statement (.decZp z) := ⟨rfl, rfl, by change undefinedOpcode 0xC6 = false; decide⟩
theorem decZpx (z : Byte) : Statement (.decZpx z) := ⟨rfl, rfl, by change undefinedOpcode 0xD6 = false; decide⟩
theorem decAbs (a : Word) : Statement (.decAbs a) := ⟨rfl, rfl, by change undefinedOpcode 0xCE = false; decide⟩
theorem decAbx (a : Word) : Statement (.decAbx a) := ⟨rfl, rfl, by change undefinedOpcode 0xDE = false; decide⟩
theorem inx : Statement .inx := ⟨rfl, rfl, by change undefinedOpcode 0xE8 = false; decide⟩
theorem iny : Statement .iny := ⟨rfl, rfl, by change undefinedOpcode 0xC8 = false; decide⟩
theorem dex : Statement .dex := ⟨rfl, rfl, by change undefinedOpcode 0xCA = false; decide⟩
theorem dey : Statement .dey := ⟨rfl, rfl, by change undefinedOpcode 0x88 = false; decide⟩
theorem aslAcc : Statement .aslAcc := ⟨rfl, rfl, by change undefinedOpcode 0x0A = false; decide⟩
theorem aslZp (z : Byte) : Statement (.aslZp z) := ⟨rfl, rfl, by change undefinedOpcode 0x06 = false; decide⟩
theorem aslZpx (z : Byte) : Statement (.aslZpx z) := ⟨rfl, rfl, by change undefinedOpcode 0x16 = false; decide⟩
theorem aslAbs (a : Word) : Statement (.aslAbs a) := ⟨rfl, rfl, by change undefinedOpcode 0x0E = false; decide⟩
theorem aslAbx (a : Word) : Statement (.aslAbx a) := ⟨rfl, rfl, by change undefinedOpcode 0x1E = false; decide⟩
theorem lsrAcc : Statement .lsrAcc := ⟨rfl, rfl, by change undefinedOpcode 0x4A = false; decide⟩
theorem lsrZp (z : Byte) : Statement (.lsrZp z) := ⟨rfl, rfl, by change undefinedOpcode 0x46 = false; decide⟩
theorem lsrZpx (z : Byte) : Statement (.lsrZpx z) := ⟨rfl, rfl, by change undefinedOpcode 0x56 = false; decide⟩
theorem lsrAbs (a : Word) : Statement (.lsrAbs a) := ⟨rfl, rfl, by change undefinedOpcode 0x4E = false; decide⟩
theorem lsrAbx (a : Word) : Statement (.lsrAbx a) := ⟨rfl, rfl, by change undefinedOpcode 0x5E = false; decide⟩
theorem rolAcc : Statement .rolAcc := ⟨rfl, rfl, by change undefinedOpcode 0x2A = false; decide⟩
theorem rolZp (z : Byte) : Statement (.rolZp z) := ⟨rfl, rfl, by change undefinedOpcode 0x26 = false; decide⟩
theorem rolZpx (z : Byte) : Statement (.rolZpx z) := ⟨rfl, rfl, by change undefinedOpcode 0x36 = false; decide⟩
theorem rolAbs (a : Word) : Statement (.rolAbs a) := ⟨rfl, rfl, by change undefinedOpcode 0x2E = false; decide⟩
theorem rolAbx (a : Word) : Statement (.rolAbx a) := ⟨rfl, rfl, by change undefinedOpcode 0x3E = false; decide⟩
theorem rorAcc : Statement .rorAcc := ⟨rfl, rfl, by change undefinedOpcode 0x6A = false; decide⟩
theorem rorZp (z : Byte) : Statement (.rorZp z) := ⟨rfl, rfl, by change undefinedOpcode 0x66 = false; decide⟩
theorem rorZpx (z : Byte) : Statement (.rorZpx z) := ⟨rfl, rfl, by change undefinedOpcode 0x76 = false; decide⟩
theorem rorAbs (a : Word) : Statement (.rorAbs a) := ⟨rfl, rfl, by change undefinedOpcode 0x6E = false; decide⟩
theorem rorAbx (a : Word) : Statement (.rorAbx a) := ⟨rfl, rfl, by change undefinedOpcode 0x7E = false; decide⟩
theorem bcc (off : Byte) : Statement (.bcc off) := ⟨rfl, rfl, by change undefinedOpcode 0x90 = false; decide⟩
theorem bcs (off : Byte) : Statement (.bcs off) := ⟨rfl, rfl, by change undefinedOpcode 0xB0 = false; decide⟩
theorem beq (off : Byte) : Statement (.beq off) := ⟨rfl, rfl, by change undefinedOpcode 0xF0 = false; decide⟩
theorem bne (off : Byte) : Statement (.bne off) := ⟨rfl, rfl, by change undefinedOpcode 0xD0 = false; decide⟩
theorem bmi (off : Byte) : Statement (.bmi off) := ⟨rfl, rfl, by change undefinedOpcode 0x30 = false; decide⟩
theorem bpl (off : Byte) : Statement (.bpl off) := ⟨rfl, rfl, by change undefinedOpcode 0x10 = false; decide⟩
theorem bvc (off : Byte) : Statement (.bvc off) := ⟨rfl, rfl, by change undefinedOpcode 0x50 = false; decide⟩
theorem bvs (off : Byte) : Statement (.bvs off) := ⟨rfl, rfl, by change undefinedOpcode 0x70 = false; decide⟩
theorem jmpAbs (a : Word) : Statement (.jmpAbs a) := ⟨rfl, rfl, by change undefinedOpcode 0x4C = false; decide⟩
theorem jmpInd (a : Word) : Statement (.jmpInd a) := ⟨rfl, rfl, by change undefinedOpcode 0x6C = false; decide⟩
theorem jsr (a : Word) : Statement (.jsr a) := ⟨rfl, rfl, by change undefinedOpcode 0x20 = false; decide⟩
theorem rts : Statement .rts := ⟨rfl, rfl, by change undefinedOpcode 0x60 = false; decide⟩
theorem pha : Statement .pha := ⟨rfl, rfl, by change undefinedOpcode 0x48 = false; decide⟩
theorem php : Statement .php := ⟨rfl, rfl, by change undefinedOpcode 0x08 = false; decide⟩
theorem pla : Statement .pla := ⟨rfl, rfl, by change undefinedOpcode 0x68 = false; decide⟩
theorem plp : Statement .plp := ⟨rfl, rfl, by change undefinedOpcode 0x28 = false; decide⟩
theorem clc : Statement .clc := ⟨rfl, rfl, by change undefinedOpcode 0x18 = false; decide⟩
theorem sec : Statement .sec := ⟨rfl, rfl, by change undefinedOpcode 0x38 = false; decide⟩
theorem cli : Statement .cli := ⟨rfl, rfl, by change undefinedOpcode 0x58 = false; decide⟩
theorem sei : Statement .sei := ⟨rfl, rfl, by change undefinedOpcode 0x78 = false; decide⟩
theorem cld : Statement .cld := ⟨rfl, rfl, by change undefinedOpcode 0xD8 = false; decide⟩
theorem sed : Statement .sed := ⟨rfl, rfl, by change undefinedOpcode 0xF8 = false; decide⟩
theorem clv : Statement .clv := ⟨rfl, rfl, by change undefinedOpcode 0xB8 = false; decide⟩
theorem nop : Statement .nop := ⟨rfl, rfl, by change undefinedOpcode 0xEA = false; decide⟩
theorem brk : Statement .brk := ⟨rfl, rfl, by change undefinedOpcode 0x00 = false; decide⟩
theorem rti : Statement .rti := ⟨rfl, rfl, by change undefinedOpcode 0x40 = false; decide⟩

end Sys2Proof.Laws.EncodedForm
end

