-- ==== Sys2Proof/Laws/Ppu.lean ====
section
/-! SUPPORT. The copy loop of the OAM DMA, the row loop of the compositor, and NMI entry beside PPU registers. -/

namespace Sys2Proof.Machine

/-- The DMA loop taken from its other end: `n + 1` bytes are `n` bytes and then one more (R246). -/
theorem oamDmaFrom_last (page : Byte) : ∀ (n i : Nat) (s : State),
    oamDmaFrom page (n + 1) i s =
      let t := oamDmaFrom page n i s
      let r := busRead t (dmaSource page (i + n))
      r.2.setOam (Memory.write r.2.ppu.oam (i + n) r.1)
  | 0, _, _ => rfl
  | n + 1, i, s => by
    rw [oamDmaFrom, oamDmaFrom_last page n (i + 1)]
    simp only [oamDmaFrom, Nat.add_right_comm i 1 n, Nat.add_assoc i n 1]

/-- The row loop keeps the canonical form, writes its own pixels and no other cell (R261). -/
theorem renderFrom_read (s : State) (y : Nat) : ∀ (n x : Nat) (fb : Memory), Memory.wf fb = true →
    Memory.wf (renderFrom s y n x fb) = true ∧
    ∀ k, Memory.read (renderFrom s y n x fb) k =
      if y * 256 + x ≤ k ∧ k < y * 256 + x + n then pixelByte s (k - y * 256) y else Memory.read fb k
  | 0, x, fb, h => ⟨h, fun k => by rw [if_neg (by omega)]; rfl⟩
  | n + 1, x, fb, h => by
    have hw : frameWidth = 256 := rfl
    obtain ⟨h1, h2⟩ :=
      renderFrom_read s y n (x + 1) (Memory.write fb (y * frameWidth + x) (pixelByte s x y)) (Memory.wf_write h _ _)
    refine ⟨h1, fun k => ?_⟩
    rw [renderFrom, h2, Memory.read_write_wf h, hw]
    by_cases e : k = y * 256 + x
    · rw [if_neg (by omega), if_pos e, if_pos (by omega), e, Nat.add_sub_cancel_left]
    · by_cases q : y * 256 + (x + 1) ≤ k ∧ k < y * 256 + (x + 1) + n
      · rw [if_pos q, if_pos (by omega)]
      · rw [if_neg q, if_neg e, if_neg (by omega)]

/-- Rendering a row sets the frame buffer and nothing else; rewrite with this before comparing states. -/
theorem renderRow_eq (y : Nat) (s : State) : renderRow y s = s.setFb (renderFrom s y 256 0 s.fb) := by
  unfold renderRow
  rw [show frameWidth = 256 from rfl]

/-- NMI entry reads and writes nothing of the PPU (R310). -/
theorem cpuNmi_ppu (s : State) : (cpuNmi s).ppu = s.ppu := by
  rw [cpuNmi, enterHandler_eq (by decide) (by decide)]; rfl

theorem cpuNmi_withPpu (s : State) (p : Ppu) : cpuNmi { s with ppu := p } = { cpuNmi s with ppu := p } := by
  rw [cpuNmi, cpuNmi, enterHandler_eq (by decide) (by decide), enterHandler_eq (by decide) (by decide)]; rfl

end Sys2Proof.Machine
end

