-- ==== Sys2Proof/Laws/Step.lean ====
section
/-! SUPPORT. What a guarded operation and a step can do, said once each. -/

namespace Sys2Proof.Machine

variable {α : Type}

/-- With no halt the first guard lets the operation through. -/
theorem unlessHalted_of_none {s : State} (h : s.halted = none) (f : Answer α) : unlessHalted s f = f := by
  rw [unlessHalted, h]

/-- After a halt it lets nothing through. -/
theorem unlessHalted_of_some {s : State} {c : FatalCause} (h : s.halted = some c) (f : Answer α) :
    unlessHalted s f = .fault (.afterHalt c) := by rw [unlessHalted, h]

theorem unlessHalted_eq_next {s : State} {a : α} {f : Answer α} (h : unlessHalted s f = .next a) :
    s.halted = none ∧ f = .next a := by
  cases hh : s.halted with
  | none => rw [unlessHalted_of_none hh] at h; exact ⟨rfl, h⟩
  | some c => rw [unlessHalted_of_some hh] at h; cases h

theorem whenSupported_of {s : State} (h1 : s.cart.prgBanks ≠ 0) (h2 : s.cart.mapper = 0) (f : Answer α) :
    whenSupported s f = f := by
  rw [whenSupported, if_neg h1, if_neg (not_not_intro h2)]

theorem whenSupported_eq_next {s : State} {a : α} {f : Answer α} (h : whenSupported s f = .next a) :
    s.cart.prgBanks ≠ 0 ∧ s.cart.mapper = 0 ∧ f = .next a := by
  unfold whenSupported at h
  split at h
  · cases h
  · split at h
    · cases h
    · rename_i h1 h2; exact ⟨h1, not_not.mp h2, h⟩

/-- In a ready state the guard lets the operation through. -/
theorem whenReady_of_ready {s : State} (h : s.Ready) (f : Answer α) : whenReady s f = f := by
  obtain ⟨h1, h2, h3, h4⟩ := h
  rw [whenReady, unlessHalted_of_none h1, h2]
  exact whenSupported_of h3 h4 f

/-- A guarded operation that goes on was called in a ready state. -/
theorem whenReady_eq_next {s : State} {a : α} {f : Answer α} (h : whenReady s f = .next a) : s.Ready ∧ f = .next a := by
  obtain ⟨hh, h⟩ := unlessHalted_eq_next h
  cases hp : s.phase <;> simp only [hp] at h
  case noCartridge => cases h
  case loaded => cases h
  case running =>
    obtain ⟨h1, h2, h3⟩ := whenSupported_eq_next h
    exact ⟨⟨hh, hp, h1, h2⟩, h3⟩

/-- A reset that goes on was called on a cartridge the model runs, with no halt. -/
theorem whenLoaded_eq_next {s : State} {a : α} {f : Answer α} (h : whenLoaded s f = .next a) :
    s.halted = none ∧ s.phase ≠ .noCartridge ∧ s.cart.prgBanks ≠ 0 ∧ s.cart.mapper = 0 ∧ f = .next a := by
  obtain ⟨hh, h⟩ := unlessHalted_eq_next h
  cases hp : s.phase <;> simp only [hp] at h
  case noCartridge => cases h
  all_goals obtain ⟨h1, h2, h3⟩ := whenSupported_eq_next h; exact ⟨hh, by decide, h1, h2, h3⟩

@[simp] theorem fetch8_ram (s : State) : (fetch8 s).2.ram = s.ram := by simp [fetch8]
@[simp] theorem fetch8_cart (s : State) : (fetch8 s).2.cart = s.cart := by simp [fetch8]
@[simp] theorem fetch8_cpu (s : State) : (fetch8 s).2.cpu = { s.cpu with pc := s.cpu.pc + 1 } := by simp [fetch8]

/-- Operand bytes are read by `Fetch8()` only: none, one or two of them (R110). -/
theorem fetchOperands_state (f : Form) (s : State) :
    (fetchOperands f s).2 = s ∨ (fetchOperands f s).2 = (fetch8 s).2 ∨ (fetchOperands f s).2 = (fetch8 (fetch8 s).2).2 := by
  cases f
  · exact .inl rfl
  · exact .inr (.inl rfl)
  · exact .inr (.inr rfl)

/-- INVERSION OF A STEP: one that goes on found a defined opcode, took its operand bytes and ran its instruction. -/
theorem step_eq_next {s t : State} (h : step s = .next t) :
    s.Ready ∧ ∃ f, lookupOpcode (busRead s s.cpu.pc).1 = some f ∧
      exec (fetchOperands f (fetch8 s).2).1 (fetchOperands f (fetch8 s).2).2 = .next t := by
  obtain ⟨hr, h⟩ := whenReady_eq_next h
  refine ⟨hr, ?_⟩
  unfold fetchInstr at h
  cases hl : lookupOpcode (fetch8 s).1 with
  | none => simp only [hl] at h; cases h
  | some f => simp only [hl] at h; exact ⟨f, hl, h⟩

end Sys2Proof.Machine
end

