-- ==== Sys2Proof/Tests/Slice0.lean ====
section
/-! SUPPORT. The model's own tests. Expected results are the spec's: 95_test_vectors.md, the encodings of
30_encoding.md R125 and of the instruction rules, and the ranges the rules give. Then one witness for the hypotheses of
every statement that has any. -/

namespace Sys2Proof.Tests

open Sys2Proof Sys2Proof.Machine Sys2Proof.Claims

/-! ## Well-formedness: every check refuses an ill-formed term -/

theorem test_line_store_immediate_refused : (Line.mk .sta .imm [0x00]).wellFormed = false := by decide
theorem test_line_zero_page_y_refused : (Line.mk .lda .zpy [0x10]).wellFormed = false := by decide
theorem test_line_missing_operand_refused : (Line.mk .lda .imm []).wellFormed = false := by decide
theorem test_line_half_word_refused : (Line.mk .jmp .abs [0x00]).wellFormed = false := by decide
theorem test_line_extra_operand_refused : (Line.mk .nop .imp [0x00]).wellFormed = false := by decide
theorem test_line_accepted : (Line.mk .jmp .ind [0xFF, 0x02]).wellFormed = true := by decide
/-- R126: A2 is the one defined byte with low nibble 2; 1A and EB are on the lists. -/
theorem test_undefined_bytes : [0x02, 0x1A, 0xEB, 0xFF].all undefinedOpcode = true ∧ undefinedOpcode 0xA2 = false := by decide

/-! ## Decoding: one word for every row of the opcode table, written from its encoding, one theorem a matrix row.
Operand bytes are 5A, or 34 and 12 for the word 1234. -/

/-- The bytes decode to the instruction and leave the bytes after it. -/
def decodesTo (p : List Byte × Instr) : Bool := decode (p.1 ++ [0xEE]) == .instr p.2 [0xEE]

def words0 : List (List Byte × Instr) :=
  [([0x00], .brk), ([0x01, 0x5A], .oraIzx 0x5A), ([0x05, 0x5A], .oraZp 0x5A), ([0x06, 0x5A], .aslZp 0x5A),
   ([0x08], .php), ([0x09, 0x5A], .oraImm 0x5A), ([0x0A], .aslAcc), ([0x0D, 0x34, 0x12], .oraAbs 0x1234),
   ([0x0E, 0x34, 0x12], .aslAbs 0x1234)]
theorem test_decode_row0 : words0.all decodesTo = true := by decide +kernel

def words1 : List (List Byte × Instr) :=
  [([0x10, 0x5A], .bpl 0x5A), ([0x11, 0x5A], .oraIzy 0x5A), ([0x15, 0x5A], .oraZpx 0x5A),
   ([0x16, 0x5A], .aslZpx 0x5A), ([0x18], .clc), ([0x19, 0x34, 0x12], .oraAby 0x1234),
   ([0x1D, 0x34, 0x12], .oraAbx 0x1234), ([0x1E, 0x34, 0x12], .aslAbx 0x1234)]
theorem test_decode_row1 : words1.all decodesTo = true := by decide +kernel

def words2 : List (List Byte × Instr) :=
  [([0x20, 0x34, 0x12], .jsr 0x1234), ([0x21, 0x5A], .andIzx 0x5A), ([0x24, 0x5A], .bitZp 0x5A),
   ([0x25, 0x5A], .andZp 0x5A), ([0x26, 0x5A], .rolZp 0x5A), ([0x28], .plp), ([0x29, 0x5A], .andImm 0x5A),
   ([0x2A], .rolAcc), ([0x2C, 0x34, 0x12], .bitAbs 0x1234), ([0x2D, 0x34, 0x12], .andAbs 0x1234),
   ([0x2E, 0x34, 0x12], .rolAbs 0x1234)]
theorem test_decode_row2 : words2.all decodesTo = true := by decide +kernel

def words3 : List (List Byte × Instr) :=
  [([0x30, 0x5A], .bmi 0x5A), ([0x31, 0x5A], .andIzy 0x5A), ([0x35, 0x5A], .andZpx 0x5A),
   ([0x36, 0x5A], .rolZpx 0x5A), ([0x38], .sec), ([0x39, 0x34, 0x12], .andAby 0x1234),
   ([0x3D, 0x34, 0x12], .andAbx 0x1234), ([0x3E, 0x34, 0x12], .rolAbx 0x1234)]
theorem test_decode_row3 : words3.all decodesTo = true := by decide +kernel

def words4 : List (List Byte × Instr) :=
  [([0x40], .rti), ([0x41, 0x5A], .eorIzx 0x5A), ([0x45, 0x5A], .eorZp 0x5A), ([0x46, 0x5A], .lsrZp 0x5A),
   ([0x48], .pha), ([0x49, 0x5A], .eorImm 0x5A), ([0x4A], .lsrAcc), ([0x4C, 0x34, 0x12], .jmpAbs 0x1234),
   ([0x4D, 0x34, 0x12], .eorAbs 0x1234), ([0x4E, 0x34, 0x12], .lsrAbs 0x1234)]
theorem test_decode_row4 : words4.all decodesTo = true := by decide +kernel

def words5 : List (List Byte × Instr) :=
  [([0x50, 0x5A], .bvc 0x5A), ([0x51, 0x5A], .eorIzy 0x5A), ([0x55, 0x5A], .eorZpx 0x5A),
   ([0x56, 0x5A], .lsrZpx 0x5A), ([0x58], .cli), ([0x59, 0x34, 0x12], .eorAby 0x1234),
   ([0x5D, 0x34, 0x12], .eorAbx 0x1234), ([0x5E, 0x34, 0x12], .lsrAbx 0x1234)]
theorem test_decode_row5 : words5.all decodesTo = true := by decide +kernel

def words6 : List (List Byte × Instr) :=
  [([0x60], .rts), ([0x61, 0x5A], .adcIzx 0x5A), ([0x65, 0x5A], .adcZp 0x5A), ([0x66, 0x5A], .rorZp 0x5A),
   ([0x68], .pla), ([0x69, 0x5A], .adcImm 0x5A), ([0x6A], .rorAcc), ([0x6C, 0x34, 0x12], .jmpInd 0x1234),
   ([0x6D, 0x34, 0x12], .adcAbs 0x1234), ([0x6E, 0x34, 0x12], .rorAbs 0x1234)]
theorem test_decode_row6 : words6.all decodesTo = true := by decide +kernel

def words7 : List (List Byte × Instr) :=
  [([0x70, 0x5A], .bvs 0x5A), ([0x71, 0x5A], .adcIzy 0x5A), ([0x75, 0x5A], .adcZpx 0x5A),
   ([0x76, 0x5A], .rorZpx 0x5A), ([0x78], .sei), ([0x79, 0x34, 0x12], .adcAby 0x1234),
   ([0x7D, 0x34, 0x12], .adcAbx 0x1234), ([0x7E, 0x34, 0x12], .rorAbx 0x1234)]
theorem test_decode_row7 : words7.all decodesTo = true := by decide +kernel

def words8 : List (List Byte × Instr) :=
  [([0x81, 0x5A], .staIzx 0x5A), ([0x84, 0x5A], .styZp 0x5A), ([0x85, 0x5A], .staZp 0x5A),
   ([0x86, 0x5A], .stxZp 0x5A), ([0x88], .dey), ([0x8A], .txa), ([0x8C, 0x34, 0x12], .styAbs 0x1234),
   ([0x8D, 0x34, 0x12], .staAbs 0x1234), ([0x8E, 0x34, 0x12], .stxAbs 0x1234)]
theorem test_decode_row8 : words8.all decodesTo = true := by decide +kernel

def words9 : List (List Byte × Instr) :=
  [([0x90, 0x5A], .bcc 0x5A), ([0x91, 0x5A], .staIzy 0x5A), ([0x94, 0x5A], .styZpx 0x5A),
   ([0x95, 0x5A], .staZpx 0x5A), ([0x96, 0x5A], .stxZpy 0x5A), ([0x98], .tya),
   ([0x99, 0x34, 0x12], .staAby 0x1234), ([0x9A], .txs), ([0x9D, 0x34, 0x12], .staAbx 0x1234)]
theorem test_decode_row9 : words9.all decodesTo = true := by decide +kernel

def wordsA : List (List Byte × Instr) :=
  [([0xA0, 0x5A], .ldyImm 0x5A), ([0xA1, 0x5A], .ldaIzx 0x5A), ([0xA2, 0x5A], .ldxImm 0x5A),
   ([0xA4, 0x5A], .ldyZp 0x5A), ([0xA5, 0x5A], .ldaZp 0x5A), ([0xA6, 0x5A], .ldxZp 0x5A), ([0xA8], .tay),
   ([0xA9, 0x5A], .ldaImm 0x5A), ([0xAA], .tax), ([0xAC, 0x34, 0x12], .ldyAbs 0x1234),
   ([0xAD, 0x34, 0x12], .ldaAbs 0x1234), ([0xAE, 0x34, 0x12], .ldxAbs 0x1234)]
theorem test_decode_rowA : wordsA.all decodesTo = true := by decide +kernel

def wordsB : List (List Byte × Instr) :=
  [([0xB0, 0x5A], .bcs 0x5A), ([0xB1, 0x5A], .ldaIzy 0x5A), ([0xB4, 0x5A], .ldyZpx 0x5A),
   ([0xB5, 0x5A], .ldaZpx 0x5A), ([0xB6, 0x5A], .ldxZpy 0x5A), ([0xB8], .clv),
   ([0xB9, 0x34, 0x12], .ldaAby 0x1234), ([0xBA], .tsx), ([0xBC, 0x34, 0x12], .ldyAbx 0x1234),
   ([0xBD, 0x34, 0x12], .ldaAbx 0x1234), ([0xBE, 0x34, 0x12], .ldxAby 0x1234)]
theorem test_decode_rowB : wordsB.all decodesTo = true := by decide +kernel

def wordsC : List (List Byte × Instr) :=
  [([0xC0, 0x5A], .cpyImm 0x5A), ([0xC1, 0x5A], .cmpIzx 0x5A), ([0xC4, 0x5A], .cpyZp 0x5A),
   ([0xC5, 0x5A], .cmpZp 0x5A), ([0xC6, 0x5A], .decZp 0x5A), ([0xC8], .iny), ([0xC9, 0x5A], .cmpImm 0x5A),
   ([0xCA], .dex), ([0xCC, 0x34, 0x12], .cpyAbs 0x1234), ([0xCD, 0x34, 0x12], .cmpAbs 0x1234),
   ([0xCE, 0x34, 0x12], .decAbs 0x1234)]
theorem test_decode_rowC : wordsC.all decodesTo = true := by decide +kernel

def wordsD : List (List Byte × Instr) :=
  [([0xD0, 0x5A], .bne 0x5A), ([0xD1, 0x5A], .cmpIzy 0x5A), ([0xD5, 0x5A], .cmpZpx 0x5A),
   ([0xD6, 0x5A], .decZpx 0x5A), ([0xD8], .cld), ([0xD9, 0x34, 0x12], .cmpAby 0x1234),
   ([0xDD, 0x34, 0x12], .cmpAbx 0x1234), ([0xDE, 0x34, 0x12], .decAbx 0x1234)]
theorem test_decode_rowD : wordsD.all decodesTo = true := by decide +kernel

def wordsE : List (List Byte × Instr) :=
  [([0xE0, 0x5A], .cpxImm 0x5A), ([0xE1, 0x5A], .sbcIzx 0x5A), ([0xE4, 0x5A], .cpxZp 0x5A),
   ([0xE5, 0x5A], .sbcZp 0x5A), ([0xE6, 0x5A], .incZp 0x5A), ([0xE8], .inx), ([0xE9, 0x5A], .sbcImm 0x5A),
   ([0xEA], .nop), ([0xEC, 0x34, 0x12], .cpxAbs 0x1234), ([0xED, 0x34, 0x12], .sbcAbs 0x1234),
   ([0xEE, 0x34, 0x12], .incAbs 0x1234)]
theorem test_decode_rowE : wordsE.all decodesTo = true := by decide +kernel

def wordsF : List (List Byte × Instr) :=
  [([0xF0, 0x5A], .beq 0x5A), ([0xF1, 0x5A], .sbcIzy 0x5A), ([0xF5, 0x5A], .sbcZpx 0x5A),
   ([0xF6, 0x5A], .incZpx 0x5A), ([0xF8], .sed), ([0xF9, 0x34, 0x12], .sbcAby 0x1234),
   ([0xFD, 0x34, 0x12], .sbcAbx 0x1234), ([0xFE, 0x34, 0x12], .incAbx 0x1234)]
theorem test_decode_rowF : wordsF.all decodesTo = true := by decide +kernel

/-- Refusals by name: an undefined byte, an operand byte missing, no byte. -/
theorem test_decode_refusals :
    decode [0x80, 0x00] = .undefinedOpcode 0x80 ∧ decode [0xAD, 0x00] = .truncated 0xAD ∧ decode [] = .empty := by
  decide +kernel
/-- The table numbers the first byte as bits 7..0. -/
theorem test_table_word : decodeTableWord 24 0x03008D = some (.staAbs 0x0300) ∧ decodeTableWord 8 0xEA = some .nop := by
  decide +kernel
theorem test_fetch_word_runs : (match step (State.reset.withFetchWord 16 0x42A9) with | .next t => t.cpu.a | _ => 0) = 0x42 := by
  decide +kernel

/-! ## The spec's instruction vectors -/

inductive Reg where
  | a | x | y | s | p | pc
  deriving DecidableEq, Repr

def setReg (s : State) (r : Reg × Nat) : State :=
  match r.1 with
  | .a => s.setA (BitVec.ofNat 8 r.2)
  | .x => s.setX (BitVec.ofNat 8 r.2)
  | .y => s.setY (BitVec.ofNat 8 r.2)
  | .s => s.setS (BitVec.ofNat 8 r.2)
  | .p => s.setP (BitVec.ofNat 8 r.2)
  | .pc => s.setPc (BitVec.ofNat 16 r.2)

def getReg (s : State) : Reg → Nat
  | .a => s.cpu.a.toNat
  | .x => s.cpu.x.toNat
  | .y => s.cpu.y.toNat
  | .s => s.cpu.s.toNat
  | .p => s.cpu.p.toNat
  | .pc => s.cpu.pc.toNat

/-- Bytes stored in RAM from an address on. -/
def storeBytes (s : State) : Nat → List Byte → State
  | _, [] => s
  | a, b :: bs => storeBytes (s.setRam (Memory.write s.ram a b)) (a + 1) bs

def storeCells (s : State) (cs : List (Nat × Byte)) : State :=
  cs.foldl (fun t c => t.setRam (Memory.write t.ram c.1 c.2)) s

/-- One line of 95_test_vectors.md: the bytes and where they stand, the start (where not A = X = Y = 0, S = FD,
P = 24), RAM and PRG cells before; registers and RAM cells after one step. -/
structure StepCase where
  bytes : List Byte
  at_ : Nat
  start : List (Reg × Nat)
  ram : List (Nat × Byte)
  prg : List (Nat × Byte)
  finish : List (Reg × Nat)
  ramAfter : List (Nat × Byte)

def StepCase.before (c : StepCase) : State :=
  let s := storeBytes (storeCells (c.start.foldl setReg (State.reset.setPc (BitVec.ofNat 16 c.at_))) c.ram) c.at_ c.bytes
  { s with cart := { s.cart with prg := c.prg.foldl (fun m k => Memory.write m k.1 k.2) s.cart.prg } }

def StepCase.holds (c : StepCase) : Bool :=
  match step c.before with
  | .next t =>
    c.finish.all (fun r => getReg t r.1 == r.2) && c.ramAfter.all (fun k => Memory.read t.ram k.1 == k.2) && t.storesSound
  | .fault _ => false
  | .refused _ => false

def cases_loads_stores_transfers : List StepCase :=
  [⟨[0xA9, 0x00], 0x0600, [(.a, 0x55)], [], [], [(.a, 0x00), (.x, 0x00), (.y, 0x00), (.s, 0xFD), (.p, 0x26), (.pc, 0x0602)], []⟩,
   ⟨[0xA9, 0x80], 0x0600, [], [], [], [(.a, 0x80), (.x, 0x00), (.y, 0x00), (.s, 0xFD), (.p, 0xA4), (.pc, 0x0602)], []⟩,
   ⟨[0xA9, 0x7F], 0x0600, [(.p, 0xA6)], [], [], [(.a, 0x7F), (.x, 0x00), (.y, 0x00), (.s, 0xFD), (.p, 0x24), (.pc, 0x0602)], []⟩,
   ⟨[0xB6, 0xF0], 0x0600, [(.y, 0x20)], [(0x0010, 0x99)], [], [(.a, 0x00), (.x, 0x99), (.y, 0x20), (.s, 0xFD), (.p, 0xA4), (.pc, 0x0602)], []⟩,
   ⟨[0xBC, 0xF0, 0x02], 0x0600, [(.x, 0x20)], [(0x0310, 0x01)], [], [(.a, 0x00), (.x, 0x20), (.y, 0x01), (.s, 0xFD), (.p, 0x24), (.pc, 0x0603)], []⟩,
   ⟨[0x8D, 0x00, 0x03], 0x0600, [(.p, 0xA4)], [(0x0300, 0x77)], [], [(.a, 0x00), (.x, 0x00), (.y, 0x00), (.s, 0xFD), (.p, 0xA4), (.pc, 0x0603)], [(0x0300, 0x00)]⟩,
   ⟨[0x96, 0xFF], 0x0600, [(.x, 0x77), (.y, 0x02)], [], [], [(.a, 0x00), (.x, 0x77), (.y, 0x02), (.s, 0xFD), (.p, 0x24), (.pc, 0x0602)], [(0x0001, 0x77)]⟩,
   ⟨[0x94, 0x80], 0x0600, [(.y, 0x33), (.x, 0x90)], [], [], [(.a, 0x00), (.x, 0x90), (.y, 0x33), (.s, 0xFD), (.p, 0x24), (.pc, 0x0602)], [(0x0010, 0x33)]⟩,
   ⟨[0xAA], 0x0600, [(.x, 0x05)], [], [], [(.a, 0x00), (.x, 0x00), (.y, 0x00), (.s, 0xFD), (.p, 0x26), (.pc, 0x0601)], []⟩,
   ⟨[0xA8], 0x0600, [(.a, 0x80)], [], [], [(.a, 0x80), (.x, 0x00), (.y, 0x80), (.s, 0xFD), (.p, 0xA4), (.pc, 0x0601)], []⟩,
   ⟨[0x8A], 0x0600, [(.x, 0x7F), (.p, 0xA6)], [], [], [(.a, 0x7F), (.x, 0x7F), (.y, 0x00), (.s, 0xFD), (.p, 0x24), (.pc, 0x0601)], []⟩,
   ⟨[0x98], 0x0600, [(.y, 0xFF)], [], [], [(.a, 0xFF), (.x, 0x00), (.y, 0xFF), (.s, 0xFD), (.p, 0xA4), (.pc, 0x0601)], []⟩,
   ⟨[0xBA], 0x0600, [], [], [], [(.a, 0x00), (.x, 0xFD), (.y, 0x00), (.s, 0xFD), (.p, 0xA4), (.pc, 0x0601)], []⟩,
   ⟨[0xBA], 0x0600, [(.s, 0x00)], [], [], [(.a, 0x00), (.x, 0x00), (.y, 0x00), (.s, 0x00), (.p, 0x26), (.pc, 0x0601)], []⟩,
   ⟨[0x9A], 0x0600, [(.p, 0xA4)], [], [], [(.a, 0x00), (.x, 0x00), (.y, 0x00), (.s, 0x00), (.p, 0xA4), (.pc, 0x0601)], []⟩,
   ⟨[0x9A], 0x0600, [(.x, 0x80)], [], [], [(.a, 0x00), (.x, 0x80), (.y, 0x00), (.s, 0x80), (.p, 0x24), (.pc, 0x0601)], []⟩]

/-- 95_test_vectors.md section 2.1. -/
theorem test_loads_stores_transfers : cases_loads_stores_transfers.all StepCase.holds = true := by decide +kernel

def cases_addressing_modes : List StepCase :=
  [⟨[0xA5, 0x10], 0x0600, [], [(0x0010, 0x11)], [], [(.a, 0x11), (.p, 0x24), (.pc, 0x0602)], []⟩,
   ⟨[0xB5, 0xF0], 0x0600, [(.x, 0x20)], [(0x0010, 0x22), (0x0110, 0xEE)], [], [(.a, 0x22)], []⟩,
   ⟨[0xAD, 0x34, 0x02], 0x0600, [], [(0x0234, 0x33)], [], [(.a, 0x33), (.pc, 0x0603)], []⟩,
   ⟨[0xBD, 0xF0, 0x02], 0x0600, [(.x, 0x20)], [(0x0310, 0x44)], [], [(.a, 0x44)], []⟩,
   ⟨[0xB9, 0xF0, 0xFF], 0x0600, [(.y, 0x20)], [(0x0010, 0x55)], [], [(.a, 0x55)], []⟩,
   ⟨[0xA1, 0x20], 0x0600, [(.x, 0x04)], [(0x0024, 0x00), (0x0025, 0x03), (0x0300, 0x66)], [], [(.a, 0x66)], []⟩,
   ⟨[0xA1, 0xFE], 0x0600, [(.x, 0x01)], [(0x00FF, 0x00), (0x0000, 0x03), (0x0100, 0x01), (0x0300, 0x77)], [], [(.a, 0x77)], []⟩,
   ⟨[0xA1, 0x80], 0x0600, [(.x, 0x90)], [(0x0010, 0x80), (0x0011, 0x02), (0x0280, 0x12)], [], [(.a, 0x12)], []⟩,
   ⟨[0xB1, 0x20], 0x0600, [(.y, 0x10)], [(0x0020, 0xF8), (0x0021, 0x02), (0x0308, 0x88)], [], [(.a, 0x88), (.p, 0xA4)], []⟩,
   ⟨[0xB1, 0xFF], 0x0600, [(.y, 0x01)], [(0x00FF, 0x00), (0x0000, 0x03), (0x0100, 0x07), (0x0301, 0x99)], [], [(.a, 0x99)], []⟩,
   ⟨[0x4C, 0x34, 0x12], 0x0600, [], [], [], [(.pc, 0x1234)], []⟩,
   ⟨[0x6C, 0x20, 0x03], 0x0600, [], [(0x0320, 0x78), (0x0321, 0x56)], [], [(.pc, 0x5678)], []⟩,
   ⟨[0x6C, 0xFF, 0x02], 0x0600, [], [(0x02FF, 0x34), (0x0200, 0x12), (0x0300, 0x99)], [], [(.pc, 0x1234)], []⟩]

/-- 95_test_vectors.md section 2.2. -/
theorem test_addressing_modes : cases_addressing_modes.all StepCase.holds = true := by decide +kernel

def cases_arithmetic_logic_a : List StepCase :=
  [⟨[0x69, 0x50], 0x0600, [(.a, 0x50), (.p, 0x24)], [], [], [(.a, 0xA0), (.p, 0xE4)], []⟩,
   ⟨[0x69, 0x10], 0x0600, [(.a, 0x50), (.p, 0x24)], [], [], [(.a, 0x60), (.p, 0x24)], []⟩,
   ⟨[0x69, 0x90], 0x0600, [(.a, 0xD0), (.p, 0x24)], [], [], [(.a, 0x60), (.p, 0x65)], []⟩,
   ⟨[0x69, 0x01], 0x0600, [(.a, 0xFF), (.p, 0x24)], [], [], [(.a, 0x00), (.p, 0x27)], []⟩,
   ⟨[0x69, 0x00], 0x0600, [(.a, 0x7F), (.p, 0x25)], [], [], [(.a, 0x80), (.p, 0xE4)], []⟩,
   ⟨[0x69, 0x00], 0x0600, [(.a, 0x00), (.p, 0x24)], [], [], [(.a, 0x00), (.p, 0x26)], []⟩,
   ⟨[0x69, 0xFF], 0x0600, [(.a, 0xFF), (.p, 0x25)], [], [], [(.a, 0xFF), (.p, 0xA5)], []⟩,
   ⟨[0x69, 0x80], 0x0600, [(.a, 0x80), (.p, 0x24)], [], [], [(.a, 0x00), (.p, 0x67)], []⟩,
   ⟨[0x69, 0x01], 0x0600, [(.a, 0x01), (.p, 0x25)], [], [], [(.a, 0x03), (.p, 0x24)], []⟩,
   ⟨[0x69, 0x01], 0x0600, [(.a, 0x09), (.p, 0x2C)], [], [], [(.a, 0x0A), (.p, 0x2C)], []⟩,
   ⟨[0xE9, 0xF0], 0x0600, [(.a, 0x50), (.p, 0x25)], [], [], [(.a, 0x60), (.p, 0x24)], []⟩,
   ⟨[0xE9, 0xB0], 0x0600, [(.a, 0x50), (.p, 0x25)], [], [], [(.a, 0xA0), (.p, 0xE4)], []⟩,
   ⟨[0xE9, 0x70], 0x0600, [(.a, 0xD0), (.p, 0x25)], [], [], [(.a, 0x60), (.p, 0x65)], []⟩,
   ⟨[0xE9, 0x01], 0x0600, [(.a, 0x00), (.p, 0x25)], [], [], [(.a, 0xFF), (.p, 0xA4)], []⟩,
   ⟨[0xE9, 0x01], 0x0600, [(.a, 0x80), (.p, 0x25)], [], [], [(.a, 0x7F), (.p, 0x65)], []⟩,
   ⟨[0xE9, 0xFF], 0x0600, [(.a, 0x7F), (.p, 0x25)], [], [], [(.a, 0x80), (.p, 0xE4)], []⟩,
   ⟨[0xE9, 0x40], 0x0600, [(.a, 0x40), (.p, 0x25)], [], [], [(.a, 0x00), (.p, 0x27)], []⟩,
   ⟨[0xE9, 0x40], 0x0600, [(.a, 0x40), (.p, 0x24)], [], [], [(.a, 0xFF), (.p, 0xA4)], []⟩,
   ⟨[0xE9, 0x01], 0x0600, [(.a, 0x10), (.p, 0x2D)], [], [], [(.a, 0x0F), (.p, 0x2D)], []⟩,
   ⟨[0xC9, 0x40], 0x0600, [(.a, 0x40)], [], [], [(.a, 0x40), (.p, 0x27)], []⟩,
   ⟨[0xC9, 0x41], 0x0600, [(.a, 0x40)], [], [], [(.a, 0x40), (.p, 0xA4)], []⟩,
   ⟨[0xC9, 0x40], 0x0600, [(.a, 0x41)], [], [], [(.a, 0x41), (.p, 0x25)], []⟩,
   ⟨[0xC9, 0xFF], 0x0600, [(.a, 0x00)], [], [], [(.a, 0x00), (.p, 0x24)], []⟩]

/-- 95_test_vectors.md section 2.3. -/
theorem test_arithmetic_logic_a : cases_arithmetic_logic_a.all StepCase.holds = true := by decide +kernel

def cases_arithmetic_logic_b : List StepCase :=
  [⟨[0xC9, 0x00], 0x0600, [(.a, 0xFF)], [], [], [(.a, 0xFF), (.p, 0xA5)], []⟩,
   ⟨[0xC9, 0x7F], 0x0600, [(.a, 0x80)], [], [], [(.a, 0x80), (.p, 0x25)], []⟩,
   ⟨[0xC9, 0x80], 0x0600, [(.a, 0x00)], [], [], [(.a, 0x00), (.p, 0xA4)], []⟩,
   ⟨[0xE0, 0x10], 0x0600, [(.x, 0x10)], [], [], [(.p, 0x27)], []⟩,
   ⟨[0xC0, 0x11], 0x0600, [(.y, 0x10)], [], [], [(.p, 0xA4)], []⟩,
   ⟨[0xE4, 0x10], 0x0600, [(.x, 0x90)], [(0x0010, 0x10)], [], [(.p, 0xA5)], []⟩,
   ⟨[0x29, 0x0F], 0x0600, [(.a, 0xF0)], [], [], [(.a, 0x00), (.p, 0x26)], []⟩,
   ⟨[0x29, 0xC0], 0x0600, [(.a, 0xAA)], [], [], [(.a, 0x80), (.p, 0xA4)], []⟩,
   ⟨[0x09, 0x80], 0x0600, [(.a, 0x01)], [], [], [(.a, 0x81), (.p, 0xA4)], []⟩,
   ⟨[0x09, 0x00], 0x0600, [], [], [], [(.a, 0x00), (.p, 0x26)], []⟩,
   ⟨[0x49, 0xFF], 0x0600, [(.a, 0xFF)], [], [], [(.a, 0x00), (.p, 0x26)], []⟩,
   ⟨[0x49, 0xFF], 0x0600, [(.a, 0x0F)], [], [], [(.a, 0xF0), (.p, 0xA4)], []⟩,
   ⟨[0x24, 0x10], 0x0600, [(.a, 0x01)], [(0x0010, 0xC0)], [], [(.a, 0x01), (.p, 0xE6)], []⟩,
   ⟨[0x24, 0x10], 0x0600, [(.a, 0xFF), (.p, 0xE6)], [(0x0010, 0x3F)], [], [(.p, 0x24)], []⟩,
   ⟨[0x2C, 0x00, 0x03], 0x0600, [(.a, 0x40)], [(0x0300, 0x40)], [], [(.p, 0x64)], []⟩,
   ⟨[0xE6, 0x10], 0x0600, [], [(0x0010, 0xFF)], [], [(.p, 0x26)], [(0x0010, 0x00)]⟩,
   ⟨[0xE6, 0x10], 0x0600, [], [(0x0010, 0x7F)], [], [(.p, 0xA4)], [(0x0010, 0x80)]⟩,
   ⟨[0xC6, 0x10], 0x0600, [], [], [], [(.p, 0xA4)], [(0x0010, 0xFF)]⟩,
   ⟨[0xDE, 0x00, 0x03], 0x0600, [(.x, 0x01)], [(0x0301, 0x01)], [], [(.p, 0x26)], [(0x0301, 0x00)]⟩,
   ⟨[0xE8], 0x0600, [(.x, 0xFF)], [], [], [(.x, 0x00), (.p, 0x26)], []⟩,
   ⟨[0xC8], 0x0600, [(.y, 0x7F)], [], [], [(.y, 0x80), (.p, 0xA4)], []⟩,
   ⟨[0xCA], 0x0600, [], [], [], [(.x, 0xFF), (.p, 0xA4)], []⟩,
   ⟨[0x88], 0x0600, [(.y, 0x01)], [], [], [(.y, 0x00), (.p, 0x26)], []⟩]

/-- 95_test_vectors.md section 2.3. -/
theorem test_arithmetic_logic_b : cases_arithmetic_logic_b.all StepCase.holds = true := by decide +kernel

def cases_shifts : List StepCase :=
  [⟨[0x0A], 0x0600, [(.a, 0x80), (.p, 0x24)], [], [], [(.a, 0x00), (.p, 0x27)], []⟩,
   ⟨[0x0A], 0x0600, [(.a, 0x41), (.p, 0x25)], [], [], [(.a, 0x82), (.p, 0xA4)], []⟩,
   ⟨[0x4A], 0x0600, [(.a, 0x01), (.p, 0x24)], [], [], [(.a, 0x00), (.p, 0x27)], []⟩,
   ⟨[0x4A], 0x0600, [(.a, 0xFF), (.p, 0xA4)], [], [], [(.a, 0x7F), (.p, 0x25)], []⟩,
   ⟨[0x2A], 0x0600, [(.a, 0x80), (.p, 0x25)], [], [], [(.a, 0x01), (.p, 0x25)], []⟩,
   ⟨[0x2A], 0x0600, [(.a, 0x40), (.p, 0x24)], [], [], [(.a, 0x80), (.p, 0xA4)], []⟩,
   ⟨[0x6A], 0x0600, [(.a, 0x01), (.p, 0x24)], [], [], [(.a, 0x00), (.p, 0x27)], []⟩,
   ⟨[0x6A], 0x0600, [(.a, 0x00), (.p, 0x25)], [], [], [(.a, 0x80), (.p, 0xA4)], []⟩,
   ⟨[0x06, 0x10], 0x0600, [], [(0x0010, 0xC0)], [], [(.p, 0xA5)], [(0x0010, 0x80)]⟩,
   ⟨[0x4E, 0x00, 0x03], 0x0600, [], [(0x0300, 0x02)], [], [(.p, 0x24)], [(0x0300, 0x01)]⟩,
   ⟨[0x36, 0x10], 0x0600, [(.x, 0x01), (.p, 0x25)], [(0x0011, 0x7F)], [], [(.p, 0xA4)], [(0x0011, 0xFF)]⟩,
   ⟨[0x7E, 0xFF, 0x02], 0x0600, [(.x, 0x01), (.p, 0x25)], [(0x0300, 0xFE)], [], [(.p, 0xA4)], [(0x0300, 0xFF)]⟩]

/-- 95_test_vectors.md section 2.4. -/
theorem test_shifts : cases_shifts.all StepCase.holds = true := by decide +kernel

def cases_control_transfer : List StepCase :=
  [⟨[0xD0, 0x05], 0x0600, [(.p, 0x24)], [], [], [(.a, 0x00), (.x, 0x00), (.y, 0x00), (.s, 0xFD), (.p, 0x24), (.pc, 0x0607)], []⟩,
   ⟨[0xD0, 0x05], 0x0600, [(.p, 0x26)], [], [], [(.a, 0x00), (.x, 0x00), (.y, 0x00), (.s, 0xFD), (.p, 0x26), (.pc, 0x0602)], []⟩,
   ⟨[0xF0, 0xFE], 0x0600, [(.p, 0x26)], [], [], [(.a, 0x00), (.x, 0x00), (.y, 0x00), (.s, 0xFD), (.p, 0x26), (.pc, 0x0600)], []⟩,
   ⟨[0x90, 0x80], 0x0600, [(.p, 0x24)], [], [], [(.a, 0x00), (.x, 0x00), (.y, 0x00), (.s, 0xFD), (.p, 0x24), (.pc, 0x0582)], []⟩,
   ⟨[0xB0, 0x7F], 0x0600, [(.p, 0x25)], [], [], [(.a, 0x00), (.x, 0x00), (.y, 0x00), (.s, 0xFD), (.p, 0x25), (.pc, 0x0681)], []⟩,
   ⟨[0xB0, 0x7F], 0x0600, [(.p, 0x24)], [], [], [(.a, 0x00), (.x, 0x00), (.y, 0x00), (.s, 0xFD), (.p, 0x24), (.pc, 0x0602)], []⟩,
   ⟨[0x30, 0x10], 0x0600, [(.p, 0xA4)], [], [], [(.a, 0x00), (.x, 0x00), (.y, 0x00), (.s, 0xFD), (.p, 0xA4), (.pc, 0x0612)], []⟩,
   ⟨[0x10, 0x10], 0x0600, [(.p, 0x24)], [], [], [(.a, 0x00), (.x, 0x00), (.y, 0x00), (.s, 0xFD), (.p, 0x24), (.pc, 0x0612)], []⟩,
   ⟨[0x70, 0x10], 0x0600, [(.p, 0x64)], [], [], [(.a, 0x00), (.x, 0x00), (.y, 0x00), (.s, 0xFD), (.p, 0x64), (.pc, 0x0612)], []⟩,
   ⟨[0x50, 0x10], 0x0600, [(.p, 0x24)], [], [], [(.a, 0x00), (.x, 0x00), (.y, 0x00), (.s, 0xFD), (.p, 0x24), (.pc, 0x0612)], []⟩,
   ⟨[0x50, 0x10], 0x0600, [(.p, 0x64)], [], [], [(.a, 0x00), (.x, 0x00), (.y, 0x00), (.s, 0xFD), (.p, 0x64), (.pc, 0x0602)], []⟩,
   ⟨[0xD0, 0x04], 0x06FC, [(.p, 0x24)], [], [], [(.a, 0x00), (.x, 0x00), (.y, 0x00), (.s, 0xFD), (.p, 0x24), (.pc, 0x0702)], []⟩,
   ⟨[0xD0, 0xFC], 0x0700, [(.p, 0x24)], [], [], [(.a, 0x00), (.x, 0x00), (.y, 0x00), (.s, 0xFD), (.p, 0x24), (.pc, 0x06FE)], []⟩,
   ⟨[0xD0, 0x10], 0x07FE, [(.p, 0x24)], [], [], [(.a, 0x00), (.x, 0x00), (.y, 0x00), (.s, 0xFD), (.p, 0x24), (.pc, 0x0810)], []⟩,
   ⟨[0x20, 0x34, 0x07], 0x0600, [], [], [], [(.s, 0xFB), (.pc, 0x0734)], [(0x01FD, 0x06), (0x01FC, 0x02)]⟩,
   ⟨[0x60], 0x0734, [(.s, 0xFB)], [(0x01FD, 0x06), (0x01FC, 0x02)], [], [(.s, 0xFD), (.pc, 0x0603)], []⟩,
   ⟨[0x20, 0x00, 0x07], 0x06FE, [(.s, 0x00)], [], [], [(.s, 0xFE), (.pc, 0x0700)], [(0x0100, 0x07), (0x01FF, 0x00)]⟩,
   ⟨[0x60], 0x0600, [(.s, 0xFF)], [(0x0100, 0xFF), (0x0101, 0x02)], [], [(.s, 0x01), (.pc, 0x0300)], []⟩,
   ⟨[0x60], 0x0600, [(.s, 0xFD)], [(0x01FE, 0xFF), (0x01FF, 0xFF)], [], [(.s, 0xFF), (.pc, 0x0000)], []⟩]

/-- 95_test_vectors.md section 2.5. -/
theorem test_control_transfer : cases_control_transfer.all StepCase.holds = true := by decide +kernel

def cases_stack_flags_system : List StepCase :=
  [⟨[0x48], 0x0600, [(.a, 0x42)], [], [], [(.s, 0xFC), (.p, 0x24)], [(0x01FD, 0x42)]⟩,
   ⟨[0x08], 0x0600, [(.p, 0xE5)], [], [], [(.s, 0xFC), (.p, 0xE5)], [(0x01FD, 0xF5)]⟩,
   ⟨[0x08], 0x0600, [], [], [], [], [(0x01FD, 0x34)]⟩,
   ⟨[0x68], 0x0600, [(.s, 0xFC)], [(0x01FD, 0x80)], [], [(.a, 0x80), (.s, 0xFD), (.p, 0xA4)], []⟩,
   ⟨[0x68], 0x0600, [(.s, 0xFC), (.a, 0x09)], [], [], [(.a, 0x00), (.p, 0x26)], []⟩,
   ⟨[0x28], 0x0600, [(.s, 0xFC)], [(0x01FD, 0xFF)], [], [(.p, 0xEF), (.s, 0xFD)], []⟩,
   ⟨[0x28], 0x0600, [(.s, 0xFC)], [], [], [(.p, 0x20)], []⟩,
   ⟨[0x18], 0x0600, [(.p, 0x25)], [], [], [(.a, 0x00), (.x, 0x00), (.y, 0x00), (.s, 0xFD), (.p, 0x24), (.pc, 0x0601)], []⟩,
   ⟨[0x38], 0x0600, [(.p, 0x24)], [], [], [(.a, 0x00), (.x, 0x00), (.y, 0x00), (.s, 0xFD), (.p, 0x25), (.pc, 0x0601)], []⟩,
   ⟨[0x58], 0x0600, [(.p, 0x24)], [], [], [(.a, 0x00), (.x, 0x00), (.y, 0x00), (.s, 0xFD), (.p, 0x20), (.pc, 0x0601)], []⟩,
   ⟨[0x78], 0x0600, [(.p, 0x20)], [], [], [(.a, 0x00), (.x, 0x00), (.y, 0x00), (.s, 0xFD), (.p, 0x24), (.pc, 0x0601)], []⟩,
   ⟨[0xD8], 0x0600, [(.p, 0x2C)], [], [], [(.a, 0x00), (.x, 0x00), (.y, 0x00), (.s, 0xFD), (.p, 0x24), (.pc, 0x0601)], []⟩,
   ⟨[0xF8], 0x0600, [(.p, 0x24)], [], [], [(.a, 0x00), (.x, 0x00), (.y, 0x00), (.s, 0xFD), (.p, 0x2C), (.pc, 0x0601)], []⟩,
   ⟨[0xB8], 0x0600, [(.p, 0x64)], [], [], [(.a, 0x00), (.x, 0x00), (.y, 0x00), (.s, 0xFD), (.p, 0x24), (.pc, 0x0601)], []⟩,
   ⟨[0xEA], 0x0600, [(.p, 0xE7)], [], [], [(.a, 0x00), (.x, 0x00), (.y, 0x00), (.s, 0xFD), (.p, 0xE7), (.pc, 0x0601)], []⟩,
   ⟨[0x00], 0x0600, [(.p, 0x65)], [], [(0x3FFE, 0x00), (0x3FFF, 0x07)], [(.s, 0xFA), (.p, 0x65), (.pc, 0x0700)], [(0x01FD, 0x06), (0x01FC, 0x02), (0x01FB, 0x75)]⟩,
   ⟨[0x00], 0x0600, [(.p, 0x20)], [], [(0x3FFE, 0x00), (0x3FFF, 0x07)], [(.p, 0x24), (.pc, 0x0700)], [(0x01FB, 0x30)]⟩,
   ⟨[0x40], 0x0600, [(.s, 0xFA)], [(0x01FB, 0xF5), (0x01FC, 0x02), (0x01FD, 0x06)], [], [(.p, 0xE5), (.s, 0xFD), (.pc, 0x0602)], []⟩]

/-- 95_test_vectors.md section 2.6. -/
theorem test_stack_flags_system : cases_stack_flags_system.all StepCase.holds = true := by decide +kernel

/-! ## The bus, the ports and the devices (95_test_vectors.md sections 2.7 to 2.15) -/

/-- A read's byte, and the state after it. -/
def readsAs (s : State) (a : Word) (v : Byte) : Bool := (busRead s a).1 == v

/-- The state after writes that go on, in order. -/
def afterWrites (s : State) : List (Word × Byte) → State
  | [] => s
  | w :: ws =>
    match busWrite s w.1 w.2 with
    | .next t => afterWrites t ws
    | .fault _ => s
    | .refused _ => s

/-- 2.7, R63: a write of 0800 shows at the four images; 1FFF is `RAM[7FF]`. -/
theorem test_ram_images : [0x0000, 0x1000, 0x1800].all (fun a => readsAs (afterWrites State.reset [(0x0800, 0x11)]) a 0x11) &&
    readsAs (storeBytes State.reset 0x7FF [0x22]) 0x1FFF 0x22 = true := by decide

/-- 2.7, R64: 3FF8 is port 0. -/
theorem test_port_images : (afterWrites State.reset [(0x3FF8, 0x90)]).ppu.ctrl = 0x90 := by decide

/-- 2.7, R67 and R71: these reads give 00 and change nothing. -/
theorem test_silent_reads : [0x4000, 0x4014, 0x4015, 0x4018, 0x5000, 0x6000, 0x7FFF].all
    (fun a => busRead State.reset a == (0x00, State.reset)) = true := by decide +kernel

/-- 2.7, R69: these writes change nothing. -/
theorem test_silent_writes : [0x4000, 0x4015, 0x4017].all (fun a => afterWrites State.reset [(a, 0x55)] == State.reset) = true := by
  decide +kernel

/-- 2.7, R72: a violation halts with the address and the byte; in mode `ignore` it does nothing. -/
theorem test_violations :
    busWrite State.reset 0x4018 0x01 = .fault (.fatal (.busWriteViolation 0x4018 0x01)) ∧
    busWrite State.reset 0xFFFF 0x01 = .fault (.fatal (.busWriteViolation 0xFFFF 0x01)) ∧
    busWrite { State.reset with writeMode := .ignore } 0x8000 0x01 = .next { State.reset with writeMode := .ignore } :=
  ⟨rfl, rfl, rfl⟩

/-- A cartridge with `n` banks and four marked bytes (2.7). -/
def banked (n : Byte) : State :=
  { State.reset with cart := { State.reset.cart with
    prgBanks := n, prg := [(0x0000, 0xAA), (0x3FFF, 0xBB), (0x4000, 0xCC), (0x7FFF, 0xDD)] } }

/-- 2.7, R66. -/
theorem test_prg_banks :
    [((0x8000 : Word), (0xAA : Byte)), (0xC000, 0xAA), (0xBFFF, 0xBB), (0xFFFF, 0xBB)].all (fun p => readsAs (banked 1) p.1 p.2) &&
    [((0x8000 : Word), (0xAA : Byte)), (0xBFFF, 0xBB), (0xC000, 0xCC), (0xFFFF, 0xDD)].all (fun p => readsAs (banked 2) p.1 p.2) =
      true := by decide

def padded : State := { State.reset with joy := { State.reset.joy with state0 := 0xA5, state1 := 0x3C } }

/-- 2.8: ten reads of each controller after a write of 4016. -/
theorem test_joypad_one :
    (readsOf 0x4016 10 (afterWrites padded [(0x4016, 0x00)])).1 = [1, 0, 1, 0, 0, 1, 0, 1, 0, 0] := by decide
theorem test_joypad_two : (readsOf 0x4017 10 (afterWrites padded [(0x4016, 0x00)])).1 = [0, 0, 1, 1, 1, 1, 0, 0, 0, 0] := by
  decide

/-- 2.9, R240 and R242: the address pair, high byte first, then a data write. -/
theorem test_address_pair :
    let t := afterWrites State.reset [(0x2006, 0x21), (0x2006, 0x08)]
    t.ppu.vramAddr = 0x2108 ∧ t.ppu.w = false ∧ Memory.read (afterWrites t [(0x2007, 0x55)]).ppu.nt 0x108 = 0x55 ∧
      (afterWrites t [(0x2007, 0x55)]).ppu.vramAddr = 0x2109 := by decide

/-- 2.9, R241: the first data read gives the old latch, the second the byte. -/
theorem test_data_reads :
    let s := { State.reset with ppu := { State.reset.ppu with nt := [(0x108, 0x55), (0x109, 0x66)], vramAddr := 0x2108 } }
    (readsOf 0x2007 2 s).1 = [0x00, 0x55] ∧ (readsOf 0x2007 2 s).2.ppu.vramAddr = 0x210A := by decide

/-- 2.9, R241: a palette read is not delayed. -/
theorem test_palette_read :
    let s := { State.reset with ppu := { State.reset.ppu with pal := [(0x01, 0x2A)], vramAddr := 0x3F01 } }
    (busRead s 0x2007).1 = 0x2A ∧ (busRead s 0x2007).2.ppu.dataLatch = 0x2A ∧ (busRead s 0x2007).2.ppu.vramAddr = 0x3F02 := by
  decide

/-- 2.9, R235: status C0 and latch 5F read DF, then 5F. -/
theorem test_status_reads :
    let s := { State.reset with ppu := { State.reset.ppu with vblank := true, spr0 := true, dataLatch := 0x5F, w := true } }
    (readsOf 0x2002 2 s).1 = [0xDF, 0x5F] ∧ (readsOf 0x2002 1 s).2.ppu.w = false := by decide

/-- 2.9, R244 and R240: whichever port takes the second write; X high and Y low. -/
theorem test_scroll_pairs :
    (afterWrites State.reset [(0x2005, 0x12), (0x2006, 0x34)]).ppu.vramAddr = 0x1234 ∧
    (afterWrites State.reset [(0x2005, 0x10), (0x2005, 0x20)]).ppu.scroll = 0x1020 := by decide

/-- 2.9, R237, R239 and R243: the OAM index wraps; the address register wraps and steps by 32 with `ctrl` = 04. -/
theorem test_port_counters :
    (afterWrites State.reset [(0x2003, 0xFF), (0x2004, 0xAB)]).ppu.oamAddr = 0x00 ∧
    (afterWrites State.reset [(0x2000, 0x04), (0x2006, 0x20), (0x2006, 0x00), (0x2007, 0x00)]).ppu.vramAddr = 0x2020 ∧
    Memory.read (afterWrites State.reset [(0x2006, 0x7F), (0x2006, 0x10), (0x2007, 0x0D)]).ppu.pal 0x00 = 0x0D := by decide

/-- 2.9, R83: the pattern store takes a write only when it is RAM. -/
theorem test_pattern_writes :
    let rom := { State.reset with cart := { State.reset.cart with chrBanks := 1, chr := [(0x10, 0x5A)] } }
    let ws : List (Word × Byte) := [(0x2006, 0x00), (0x2006, 0x10), (0x2007, 0xFF)]
    Memory.read (afterWrites rom ws).cart.chr 0x10 = 0x5A ∧ Memory.read (afterWrites State.reset ws).cart.chr 0x10 = 0xFF := by
  decide

/-- 2.9, R247: DMA from page 40 reads both controllers once each, in address order. -/
theorem test_dma_from_registers :
    let s := { State.reset with joy := { State.reset.joy with shift0 := 0xA5, shift1 := 0x0F } }
    let t := afterWrites s [(0x4014, 0x40)]
    t.ppu.oam = [(0x16, 0x01)] ∧ t.joy.shift0 = 0x4A ∧ t.joy.shift1 = 0x1E := by decide +kernel

/-- 2.10: where each nametable address leads, index 1024 t + offset. -/
theorem test_nametable_places :
    [(0x2000, 0x000), (0x23FF, 0x3FF), (0x2400, 0x000), (0x2800, 0x400), (0x2C00, 0x400), (0x2FFF, 0x7FF), (0x3000, 0x000),
      (0x3EFF, 0x6FF)].all (fun p => vramPlace .horizontal p.1 == .nt p.2) &&
    [(0x2000, 0x000), (0x23FF, 0x3FF), (0x2400, 0x400), (0x2800, 0x000), (0x2C00, 0x400), (0x2FFF, 0x7FF), (0x3000, 0x000),
      (0x3EFF, 0x6FF)].all (fun p => vramPlace .vertical p.1 == .nt p.2) = true := by decide

/-- 2.10: palette aliases and the 14-bit reduction. -/
theorem test_palette_places :
    [(0x3F11, 0x11), (0x3F31, 0x11), (0x3F01, 0x01), (0x3F10, 0x00), (0x3F14, 0x00), (0x3F18, 0x00), (0x3F1C, 0x00),
      (0x3F04, 0x04), (0x3F0C, 0x0C)].all (fun p => vramPlace .horizontal p.1 == .pal p.2) = true ∧
    vramPlace .horizontal 0x4010 = .chr 0x0010 := by decide

/-- The machine on a scanline, with the PPU registers 2.11 names. -/
def onLine (n : Int) (ctrl mask oam0 : Byte) : State :=
  { State.reset with ppu := { State.reset.ppu with
    scanline := n, ctrl := ctrl, mask := mask, oam := Memory.write [] 0 oam0 } }

/-- 2.11, R253: sprite-0 hit on its line when the background or the sprites are enabled, on line 240 too. -/
theorem test_sprite0_lines :
    (advanceScanline (onLine 48 0x00 0x08 0x30)).2.ppu.spr0 = true ∧ (advanceScanline (onLine 48 0x00 0x00 0x30)).2.ppu.spr0 = false ∧
    (advanceScanline (onLine 48 0x00 0x10 0x30)).2.ppu.spr0 = true ∧ (advanceScanline (onLine 240 0x00 0x18 0xF0)).2.ppu.spr0 = true := by
  decide

/-- 2.11, R252, R254 and R255. -/
theorem test_line_actions :
    (advanceScanline (onLine 241 0x00 0x00 0x00)).1 = false ∧ (advanceScanline (onLine 241 0x80 0x00 0x00)).1 = true ∧
    (advanceScanline (onLine 241 0x80 0x00 0x00)).2.ppu.scanline = 242 ∧ (advanceScanline (onLine 241 0x80 0x00 0x00)).2.cpu.s = 0xFA ∧
    (advanceScanline (onLine 260 0x00 0x00 0x00)).2.ppu.scanline = -1 := by decide

/-- The common state of 2.12. -/
def picture (ctrl mask : Byte) (scroll : Word) (oam : List (Nat × Byte)) : State :=
  { State.reset with
    ppu := { State.reset.ppu with
      ctrl := ctrl, mask := mask, scroll := scroll, nt := [(0x000, 0x01), (0x002, 0x01), (0x3C0, 0xE4)],
      pal := (List.range 32).map (fun i => (i, BitVec.ofNat 8 (0x20 + i))),
      oam := oam.foldl (fun m c => Memory.write m c.1 c.2) ((List.range 256).map (fun i => (i, 0xFF))) }
    cart := { State.reset.cart with chr := [(0x10, 0xAA), (0x17, 0xFF), (0x18, 0xCC)] } }

/-- Pixels of a row from `x` on, before the frame buffer. -/
def pixelsAt (s : State) (y x n : Nat) : List Byte := (List.range n).map (fun k => pixelByte s (x + k) y)

/-- 2.12: the background, row 0 and row 7; scrolled by 3 and by 255. -/
theorem test_background :
    pixelsAt (picture 0x00 0x08 0x0000 []) 0 0 20 =
      [0x23, 0x22, 0x21, 0x20, 0x23, 0x22, 0x21, 0x20] ++ List.replicate 8 0x20 ++ [0x27, 0x26, 0x25, 0x20] ∧
    pixelsAt (picture 0x00 0x08 0x0300 []) 0 0 8 = [0x20, 0x23, 0x22, 0x21, 0x20, 0x20, 0x20, 0x20] ∧
    pixelsAt (picture 0x00 0x08 0xFF00 []) 0 0 4 = [0x20, 0x23, 0x22, 0x21] := by decide +kernel

/-- 2.12: a sprite one line below its Y; flipped with palette 1; in front of the lower-priority one. -/
theorem test_sprites :
    pixelsAt (picture 0x00 0x18 0x0000 [(0, 0x09), (1, 0x01), (2, 0x00), (3, 0x00)]) 10 0 4 = [0x33, 0x32, 0x31, 0x20] ∧
    pixelsAt (picture 0x00 0x10 0x0000 [(4, 0x09), (5, 0x01), (6, 0x41), (7, 0x64)]) 10 100 4 = [0x20, 0x35, 0x36, 0x37] ∧
    pixelsAt (picture 0x00 0x18 0x0000 [(0, 0x09), (1, 0x01), (2, 0x02), (3, 0x04), (4, 0x09), (5, 0x01), (6, 0x03), (7, 0x02)]) 10 2 9 =
      [0x3F, 0x3E, 0x3B, 0x3A, 0x39, 0x3E, 0x3B, 0x3A, 0x39] ∧
    pixelsAt (picture 0x00 0x10 0x0000 [(0, 0xEF), (1, 0x01), (2, 0x00), (3, 0x00)]) 239 0 2 = [0x20, 0x20] := by decide +kernel

/-- 2.13, R310: NMI entry from PC = 8123, P = 63, with the vector 9000. -/
def beforeNmi : State :=
  { State.reset with
    cpu := { State.reset.cpu with pc := 0x8123, p := 0x63 }, cart := { State.reset.cart with prg := [(0x3FFB, 0x90)] } }

theorem test_nmi_entry :
    let t := cpuNmi beforeNmi
    (List.map (Memory.read t.ram) [0x1FD, 0x1FC, 0x1FB]) = [0x81, 0x23, 0x67] ∧ t.cpu = { beforeNmi.cpu with s := 0xFA, p := 0x67, pc := 0x9000 } := by
  decide

/-- 2.13, R340: what CpuReset does to a state with a halt record. -/
theorem test_reset_after_halt :
    let s := { State.reset with halted := some (.undefinedOpcode 0x02 0x0600), cart := { State.reset.cart with prg := [(0x3FFD, 0x80)] } }
    (cpuReset s).cpu = { a := 0, x := 0, y := 0, s := 0xFD, p := 0x24, pc := 0x8000 } ∧ (cpuReset s).halted = none := by decide

/-- A header of sixteen bytes, the last eight 00. -/
def header (first : List Byte) : List Byte := first ++ List.replicate 8 0x00

def unloaded : State := State.powerOn ⟨[], [], [], [], [], [], .halt⟩

/-- 2.14: the four failures by header. -/
theorem test_loader_failures :
    cartLoad (header [0x4E, 0x45, 0x53, 0x1A, 0x01, 0x01, 0x00, 0x08]) unloaded = .fault (.fatal .unsupportedFileType) ∧
    cartLoad (header [0x4E, 0x45, 0x53, 0x00, 0x01, 0x01, 0x00, 0x00]) unloaded = .fault (.fatal .badMagic) ∧
    cartLoad (header [0x00, 0x00, 0x00, 0x00, 0x01, 0x01, 0x00, 0x08]) unloaded = .fault (.fatal .badMagic) ∧
    cartLoad (header [0x4E, 0x45, 0x53, 0x1A, 0x00, 0x01, 0x00, 0x00]) unloaded = .refused .noPrgBanks := ⟨rfl, rfl, rfl, rfl⟩

/-- R8, R92, U8: after a failed load, and after any other halt, every operation is stuck, CpuReset too (log entry 8). -/
theorem test_nothing_after_a_halt :
    perform .cpuReset (afterwards unloaded (cartLoad (header [0, 0, 0, 0, 1, 1, 0, 8]) unloaded)) = .fault (.afterHalt .badMagic) ∧
    perform .cpuReset { State.reset with halted := some (.undefinedOpcode 0x02 0x0600) } =
      .fault (.afterHalt (.undefinedOpcode 0x02 0x0600)) := ⟨rfl, rfl⟩

/-- 2.14, R303, U4: with mapper 41 hex the decoding is that of mapper 0, and the machine is refused. -/
def otherMapper : State := { State.reset with cart := { State.reset.cart with mapper := 0x41, prg := [(0x0000, 0xEA)] } }
theorem test_other_mapper :
    (busRead otherMapper 0x8000).1 = 0xEA ∧ step otherMapper = .refused (.unsupportedMapper 0x41) ∧
      perform .cpuReset otherMapper = .refused (.unsupportedMapper 0x41) := ⟨rfl, rfl, rfl⟩

/-- 2.14: the fields of a header; offsets with a trainer, a mapper number, and bits 3:2 = 01. -/
theorem test_loader_fields :
    prgOffset (header [0x4E, 0x45, 0x53, 0x1A, 0x01, 0x01, 0x05, 0x00]) = 528 ∧
    headerMirroring (header [0x4E, 0x45, 0x53, 0x1A, 0x01, 0x01, 0x05, 0x00]) = .vertical ∧
    headerMapper (header [0x4E, 0x45, 0x53, 0x1A, 0x01, 0x01, 0x10, 0x40]) = 0x41 ∧
    extendedFormat (header [0x4E, 0x45, 0x53, 0x1A, 0x01, 0x01, 0x00, 0x04]) = false := by decide

/-- 2.15, R301: an undefined byte at 0600 halts with the byte and its address. -/
theorem test_undefined_opcode_halts :
    step (storeBytes (State.reset.setPc 0x0600) 0x0600 [0x02]) = .fault (.fatal (.undefinedOpcode 0x02 0x0600)) := rfl
/-- 2.15, R302: the store of `A9 01 8D 00 80`. -/
theorem test_store_violation :
    step (storeBytes ((State.reset.setPc 0x0602).setA 0x01) 0x0602 [0x8D, 0x00, 0x80]) =
      .fault (.fatal (.busWriteViolation 0x8000 0x01)) := rfl

/-! ## Witnesses: concrete states and operands that meet the hypotheses of the statements, at the ends of their ranges -/

/-- Code in work RAM at 0600. -/
def coded (bytes : List Byte) : State := storeBytes (State.reset.setPc 0x0600) 0x0600 bytes

theorem witness_StepRunsTheFetchedInstruction_runs :
    (coded [0xA9, 0x42]).Ready ∧ (Instr.ldaImm 0x42).wellFormed = true ∧
      fetchBytes (Instr.ldaImm 0x42).length (coded [0xA9, 0x42]) = (encode (.ldaImm 0x42), (coded [0xA9, 0x42]).setPc 0x0602) :=
  ⟨by decide, by decide, rfl⟩
theorem witness_StepRunsTheFetchedInstruction_halts :
    (coded [0xFF]).Ready ∧ undefinedOpcode (busRead (coded [0xFF]) (coded [0xFF]).cpu.pc).1 = true := by decide

theorem witness_StepFromMemory_ram :
    (coded [0x8D, 0x00, 0x03]).Ready ∧ (Instr.staAbs 0x0300).wellFormed = true ∧ InMemoryAtPc (coded [0x8D, 0x00, 0x03]) (.staAbs 0x0300) := by
  unfold InMemoryAtPc; decide
/-- The opcode is the last byte of PRG ROM and the operand is RAM byte 0: `PC` wraps. -/
def wrapped : State :=
  { State.reset.setPc 0xFFFF with ram := [(0x000, 0x42)], cart := { State.reset.cart with prg := [(0x3FFF, 0xA9)] } }
theorem witness_StepFromMemory_wrap : wrapped.Ready ∧ InMemoryAtPc wrapped (.ldaImm 0x42) := by unfold InMemoryAtPc; decide
/-- Nothing of it is claimed for an instruction in the undecoded range. -/
theorem witness_InMemoryAtPc_fails : ¬InMemoryAtPc (State.reset.setPc 0x7FFF) .brk := by unfold InMemoryAtPc; decide

def halted : State := { State.reset with halted := some .badMagic }
def notBooted : State := { State.reset with phase := .loaded }
def bankless : State := { State.reset with cart := { State.reset.cart with prgBanks := 0 } }

theorem witness_StepStopsOnlyWhereTheSpecSays_ready :
    State.reset.Ready ∧ (∃ t, step (coded [0xEA]) = .next t) ∧ (coded [0x02]).Ready ∧
      undefinedOpcode (busRead (coded [0x02]) 0x0600).1 = true ∧ (coded [0x8D, 0x18, 0x40]).writeMode = .halt ∧
      step (coded [0x8D, 0x18, 0x40]) = .fault (.fatal (.busWriteViolation 0x4018 0x00)) :=
  ⟨by decide, ⟨_, rfl⟩, by decide, by decide, rfl, rfl⟩
theorem witness_StepStopsOnlyWhereTheSpecSays_stuck :
    halted.halted = some .badMagic ∧ (notBooted.halted = none ∧ notBooted.phase ≠ .running) ∧
      (bankless.halted = none ∧ bankless.phase = .running ∧ bankless.cart.prgBanks = 0) ∧
      (otherMapper.halted = none ∧ otherMapper.phase = .running ∧ otherMapper.cart.prgBanks ≠ 0 ∧ otherMapper.cart.mapper ≠ 0) := by
  decide

theorem witness_LoadsTakeTheOperandByte :
    Instr.mnemonic (.ldaIzy 0xFF) = .lda ∧ Instr.mnemonic (.ldxZpy 0xF0) = .ldx ∧ Instr.mnemonic (.ldyAbx 0xFFFF) = .ldy ∧
      (operandOf (.ldaImm 0x80)).read State.reset = (0x80, State.reset) := ⟨rfl, rfl, rfl, rfl⟩
theorem witness_AluMnemonics :
    Instr.mnemonic (.adcIzx 0x00) = .adc ∧ Instr.mnemonic (.sbcImm 0xFF) = .sbc ∧ Instr.mnemonic (.andZp 0x00) = .and ∧
      Instr.mnemonic (.oraAby 0xFFFF) = .ora ∧ Instr.mnemonic (.eorImm 0xFF) = .eor ∧ Instr.mnemonic (.cmpImm 0x00) = .cmp ∧
      Instr.mnemonic (.cpxAbs 0x0000) = .cpx ∧ Instr.mnemonic (.cpyZp 0xFF) = .cpy ∧ Instr.mnemonic (.bitAbs 0x2002) = .bit := by
  decide

/-- The four windows of a store at their first and last addresses, and what the store does there. -/
theorem witness_StoresWriteOneByte_ram :
    Memory.wf State.reset.ram = true ∧ Instr.mnemonic (.staAbs 0x1FFF) = .sta ∧
      ((operandOf (.staAbs 0x0000)).address State.reset).toNat = 0x0000 ∧
      ((operandOf (.staAbs 0x1FFF)).address State.reset).toNat = 0x1FFF ∧
      exec (.staAbs 0x1FFF) (State.reset.setA 0x42) = .next { State.reset.setA 0x42 with ram := [(0x7FF, 0x42)] } :=
  ⟨rfl, rfl, rfl, rfl, rfl⟩
theorem witness_StoresWriteOneByte_devices :
    ((operandOf (.stxAbs 0x2000)).address State.reset).toNat = 0x2000 ∧ Instr.mnemonic (.stxAbs 0x2000) = .stx ∧
      ((operandOf (.stxAbs 0x4017)).address State.reset).toNat = 0x4017 ∧ exec (.stxAbs 0x4017) State.reset = .next State.reset ∧
      ∃ t, busWrite (State.reset.setX 0x84) 0x2000 0x84 = .next t ∧ exec (.stxAbs 0x2000) (State.reset.setX 0x84) = .next t :=
  ⟨rfl, rfl, rfl, rfl, _, rfl, rfl⟩
theorem witness_StoresWriteOneByte_violation :
    Instr.mnemonic (.styAbs 0x4018) = .sty ∧
      exec (.styAbs 0x4018) State.reset = .fault (.fatal (.busWriteViolation 0x4018 0x00)) ∧
      exec (.styAbs 0xFFFF) { State.reset with writeMode := .ignore } = .next { State.reset with writeMode := .ignore } :=
  ⟨rfl, rfl, rfl⟩

/-- Every kind of read-modify-write has an outcome, with a carry in and without. -/
theorem witness_ReadModifyWriteStoresTheResult :
    Memory.wf State.reset.ram = true ∧ Instr.mode (.rorAbx 0x1FFF) ≠ .imp ∧
      [Mnemonic.inc, .dec, .asl, .lsr, .rol, .ror].all (fun m => (modifyOutcome m 0x80 1).isSome && (modifyOutcome m 0xFF 0).isSome) =
        true := by decide
theorem witness_AccumulatorShifts :
    Instr.mode .rolAcc = .imp ∧ shiftOutcome (Instr.mnemonic .rolAcc) 0x80 1 = some (0x01, true) ∧
      shiftOutcome (Instr.mnemonic .rorAcc) 0x01 1 = some (0x80, true) ∧ shiftOutcome (Instr.mnemonic .aslAcc) 0x41 1 = some (0x82, false) ∧
      shiftOutcome (Instr.mnemonic .lsrAcc) 0xFF 0 = some (0x7F, true) := by decide

/-- The pointer's low byte at FF and just below it. -/
theorem witness_JumpIndirectWrapsInThePage :
    (0x02FF : Word).toNat % 256 = 0xFF ∧ (0x02FE : Word).toNat % 256 ≠ 0xFF ∧ (0xFFFF : Word).toNat % 256 = 0xFF := by decide

theorem witness_StackStatements : Memory.wf State.reset.ram = true ∧ Memory.wf (coded [0x00]).ram = true := by decide
/-- After a JSR, a BRK and an NMI the state itself meets what `u` must. -/
theorem witness_ReturnsUndoEntries :
    Memory.wf State.reset.ram = true ∧ State.reset.statusLegal = true ∧
      (∃ t, exec (.jsr 0x1234) State.reset = .next t ∧ exec .rts t = .next { t with cpu := { t.cpu with pc := State.reset.cpu.pc, s := 0xFD } }) ∧
      (∃ t, exec .brk State.reset = .next t ∧ (exec .rti t = .next { t with cpu := { State.reset.cpu with pc := 0x0001 } })) :=
  ⟨by decide, by decide, ⟨_, rfl, rfl⟩, ⟨_, rfl, rfl⟩⟩
/-- The NMI clause from P = 63, I clear: RTI leaves I set. -/
theorem witness_ReturnsUndoEntries_nmi :
    Memory.wf beforeNmi.ram = true ∧ beforeNmi.statusLegal = true ∧ beforeNmi.flag .i = false ∧
      exec .rti (cpuNmi beforeNmi) = .next { cpuNmi beforeNmi with cpu := { beforeNmi.cpu with p := 0x67 } } :=
  ⟨by decide, by decide, by decide, rfl⟩

theorem witness_IndexedIndirectWrapsInPageZero :
    Instr.mode (.staIzx 0xFE) = .izx ∧ (Instr.staIzx 0xFE).operandBytes = [0xFE] ∧
      ((0xFE : Byte).toNat + (State.reset.setX 0x01).cpu.x.toNat + 1) % 256 = 0 := by decide

theorem witness_ReadDecoder : State.reset.cart.prgBanks ≠ 0 ∧ (banked 255).cart.prgBanks ≠ 0 := by decide
/-- R230's table at the ends of the window, and the ends of 0x4000–0x4017. -/
theorem witness_Decoders_windows :
    portTable[(0x2000 : Word).toNat % 8]? = some .control ∧ portTable[(0x2001 : Word).toNat % 8]? = some .mask ∧
      portTable[(0x3FFF : Word).toNat % 8]? = some .vramData ∧ 0x4000 ≤ (0x4015 : Word).toNat ∧ (0x4017 : Word).toNat ≤ 0x4017 ∧
      busWrite State.reset 0x4017 0xFF = .next State.reset ∧ busRead State.reset 0x4014 = (0, State.reset) :=
  ⟨rfl, rfl, rfl, by decide, by decide, rfl, rfl⟩
theorem witness_RamIsMirroredFourTimes :
    Memory.wf State.reset.ram = true ∧ (0x1FFF : Word).toNat ≤ 0x1FFF ∧ (0x07FF : Word).toNat % 0x0800 = (0x1FFF : Word).toNat % 0x0800 := by
  decide
theorem witness_PrgWindowShowsTheBanks :
    0x8000 ≤ (0x8000 : Word).toNat ∧ (banked 1).cart.prgBanks = 1 ∧ 1 < (banked 2).cart.prgBanks.toNat ∧ (0xFFFF : Word).toNat = 0xFFFA + 5 := by
  decide
theorem witness_UndecodedReadsGiveZero :
    0x4018 ≤ (0x4018 : Word).toNat ∧ (0x4018 : Word).toNat ≤ 0x7FFF ∧ 0x4018 ≤ (0x7FFF : Word).toNat ∧ (0x7FFF : Word).toNat ≤ 0x7FFF := by
  decide
theorem witness_ReadsMoveOnlyTheListedPorts :
    [0x1FFF, 0x2000, 0x3FFE, 0x4000, 0x4015, 0x4018, 0xFFFF].all (fun a => !readHasEffect a) &&
      [0x2002, 0x2007, 0x3FFA, 0x3FFF, 0x4016, 0x4017].all readHasEffect = true := by decide

theorem witness_OamDmaCopiesThePage :
    Memory.wf State.reset.ppu.oam = true ∧ (0x1F : Byte).toNat ≤ 0x1F ∧ 0x41 ≤ (0x41 : Byte).toNat ∧ 0x41 ≤ (0xFF : Byte).toNat := by decide
theorem witness_SimplePortsStoreAndRead : Memory.wf State.reset.ppu.oam = true := rfl
theorem witness_WritePairsShareOneToggle : State.reset.ppu.w = false := rfl
theorem witness_DataPortWriteStoresAndMoves :
    Memory.wf State.reset.ppu.nt = true ∧ Memory.wf State.reset.ppu.pal = true ∧ Memory.wf State.reset.cart.chr = true := by decide
theorem witness_PpuRanges :
    inNametables 0x2000 = true ∧ inNametables 0x3EFF = true ∧ inNametables 0x3F00 = false ∧ inNametables 0x1FFF = false ∧
      inPalette 0x3F00 = true ∧ inPalette 0x3FFF = true ∧ inPalette 0x4000 = false ∧ tableOf .vertical 0x2400 = 1 ∧
      tableOf .horizontal 0x2400 = 0 ∧ slotOf 0x3F1C = 0x00 ∧ slotOf 0x3F1D = 0x1D := by decide

/-- Every line of 2.11's phases at its ends. -/
theorem witness_AdvanceActsThenCounts :
    (onLine (-1) 0 0 0).ppu.scanline = -1 ∧ 0 ≤ (onLine 0 0 0 0).ppu.scanline ∧ (onLine 240 0 0 0).ppu.scanline ≤ 240 ∧
      (onLine 241 0x80 0 0).ppu.scanline = 241 ∧ bit (onLine 241 0x80 0 0).ppu.ctrl 7 = true ∧ bit (onLine 241 0x7F 0 0).ppu.ctrl 7 = false ∧
      242 ≤ (onLine 242 0 0 0).ppu.scanline ∧ (onLine 260 0 0 0).ppu.scanline ≤ 260 := by decide
theorem witness_FrameIs262Advances : State.reset.ppu.scanline = -1 := rfl

theorem witness_RenderRowWritesOneRow :
    Memory.wf State.reset.fb = true ∧ State.reset.Ready ∧ bit (picture 0 0x08 0 []).ppu.mask 3 = true ∧
      bit State.reset.ppu.mask 3 = false ∧ bit State.reset.ppu.mask 4 = false := by decide
theorem witness_FrontSpriteIsTheLowestNumbered :
    spritePixel (picture 0x00 0x10 0x0000 [(0, 0x09), (1, 0x01), (2, 0x00), (3, 0x00)]) 0 10 = some ⟨3, 0⟩ ∧
      spritePixel (picture 0x00 0x10 0x0000 []) 0 10 = none := by decide +kernel
theorem witness_BackgroundPixelFormula :
    bit (picture 0 0x08 0 []).ppu.mask 3 = true ∧ bit (picture 0 0x10 0 []).ppu.mask 3 = false := by decide

/-- One PRG bank of zeros after a header: the loader takes it. -/
def smallImage : List Byte := header [0x4E, 0x45, 0x53, 0x1A, 0x01, 0x00, 0x00, 0x00] ++ List.replicate 16384 0x00

theorem witness_LoaderReadsTheImage :
    unloaded.phase = .noCartridge ∧ State.reset.phase ≠ .noCartridge ∧ 16 + 16384 + 0 ≤ smallImage.length ∧
      (imageByte smallImage 0, imageByte smallImage 1, imageByte smallImage 2, imageByte smallImage 3) = (0x4E, 0x45, 0x53, 0x1A) ∧
      imageByte smallImage 4 = 1 ∧ imageByte smallImage 5 = 0 ∧ imageByte smallImage 6 = 0 ∧ imageByte smallImage 7 = 0 := by
  refine ⟨rfl, by decide, ?_, rfl, rfl, rfl, rfl, rfl⟩
  unfold smallImage header
  simp only [List.length_append, List.length_replicate, List.length_cons, List.length_nil]
  omega
theorem witness_LoaderFailures :
    16 ≤ (header [0x4E, 0x45, 0x53, 0x1A, 0x01, 0x00, 0x00, 0x00]).length ∧
      (header [0x4E, 0x45, 0x53, 0x1A, 0x01, 0x00, 0x00, 0x00]).length < 16 + 512 * 0 + 16384 * 1 + 8192 * 0 ∧
      bitNat 0x08 3 = 1 ∧ bitNat 0x08 2 = 0 := by decide
theorem witness_LoaderReadsTheImage_short :
    cartLoad [0x4E, 0x45, 0x53] unloaded = .refused .imageTooShort ∧ cartLoad [0x4E, 0x45, 0x53, 0x00] unloaded = .fault (.fatal .badMagic) ∧
      cartLoad ([0x4E, 0x45, 0x53, 0x1A] ++ List.replicate 11 0x00) unloaded = .refused .imageTooShort := ⟨rfl, rfl, rfl⟩

theorem witness_ResetsLeaveTheStatedValues :
    State.reset.cart.prgBanks ≠ 0 ∧ State.reset.cart = ⟨1, 0, .horizontal, 0, [], []⟩ ∧ State.reset.ram = [] ∧
      State.reset.writeMode = .halt := by decide

theorem witness_StepKeepsTheInvariant : State.reset.Inv ∧ ∃ t, step State.reset = .next t := ⟨by decide, _, rfl⟩
theorem witness_StepNeverTouchesTheFixedParts : State.reset.cart.chrBanks = 0 ∧
    ({ State.reset with cart := { State.reset.cart with chrBanks := 1 } } : State).cart.chrBanks ≠ 0 ∧
    ∃ t, step { State.reset with cart := { State.reset.cart with chrBanks := 1 } } = .next t := ⟨rfl, by decide, _, rfl⟩
/-- Each operation of the contract goes on somewhere. -/
theorem witness_OperationsKeepTheInvariant :
    State.reset.Inv ∧ unloaded.Inv ∧ (∃ t, perform .cpuReset State.reset = .next t) ∧ (∃ t, perform .ppuReset State.reset = .next t) ∧
      (∃ t, perform (.cpuRun 1) State.reset = .next t) ∧ (∃ t, perform .advanceScanline State.reset = .next t) ∧
      (∃ t, perform (.setJoyState 1 0xFF) State.reset = .next t) :=
  ⟨by decide, by decide, ⟨_, rfl⟩, ⟨_, rfl⟩, ⟨_, rfl⟩, ⟨_, rfl⟩, ⟨_, rfl⟩⟩
/-- The last row is rendered from the state after reset and the row after it is refused; nothing is evaluated. -/
theorem witness_RenderRowAtTheLastRow :
    State.reset.Ready ∧ perform (.renderRow 239) State.reset = .next (renderRow 239 State.reset) ∧
      perform (.renderRow 240) State.reset = .refused (.rowOutOfRange 240) := ⟨by decide, rfl, rfl⟩
theorem witness_RegistersAndFlagsHaveTheirWriters :
    exec .nop State.reset = .next State.reset ∧ writesA .nop = false ∧ writesX .nop = false ∧ writesY .nop = false ∧
      writesS .nop = false ∧ writesFlag .c Mnemonic.nop = false ∧ writesFlag .v Mnemonic.ror = false := ⟨rfl, rfl, rfl, rfl, rfl, rfl, rfl⟩
/-- One state for each of the refusals and for none, one for a halt, and a batch ended by its second step. -/
theorem witness_HostOperationsRunAndAreGuarded :
    halted.halted = some .badMagic ∧ State.reset.halted = none ∧ refusalOf (State.reset.phase == .running) State.reset = none ∧
      refusalOf (notBooted.phase == .running) notBooted = some .notBooted ∧ refusalOf (notBooted.phase != .noCartridge) notBooted = none ∧
      refusalOf (unloaded.phase != .noCartridge) unloaded = some .notBooted ∧
      refusalOf (bankless.phase == .running) bankless = some .noPrgBanks ∧
      refusalOf (otherMapper.phase == .running) otherMapper = some (.unsupportedMapper 0x41) := by decide
theorem witness_HostOperationsRunAndAreGuarded_batch :
    cpuRun 1 (coded [0xEA, 0x02]) = .next ((coded [0xEA, 0x02]).setPc 0x0601) ∧
      cpuRun 3 (coded [0xEA, 0x02]) = .fault (.fatal (.undefinedOpcode 0x02 0x0601)) := ⟨rfl, rfl⟩
theorem witness_DecimalAndInterruptFlagsInfluenceNothing :
    touchesDOrI (Instr.mnemonic (.adcImm 0x99)) = false ∧ touchesDOrI (Instr.mnemonic .php) = true ∧
      (∃ t, exec (.adcImm 0x01) (State.reset.setFlag .d true) = .next t ∧ t.cpu.a = 0x01) := ⟨rfl, rfl, _, rfl, rfl⟩

end Sys2Proof.Tests
end

section
/-! The reset values meet the invariant. The status byte (70_reset_and_hazards.md R340) and the scanline counter (R341)
meet it in every state that holds the reset values; that the stores are sound is a fact about the blank machine alone. -/

namespace Sys2Proof.Machine

@[simp] theorem Memory.sound_nil (n : Nat) : Memory.sound n [] = true := rfl

/-- R340: `P` = 0x24 has U set and B clear, whatever the reset vector holds. -/
theorem State.statusLegal_of_cpu_afterReset {s : State} {vector : Word} (h : s.cpu = Cpu.afterReset vector) :
    s.statusLegal = true := by
  have hp : s.cpu.p = 0x24 := by rw [h]; rfl
  rw [State.statusLegal, hp]
  decide

/-- R341: the counter starts at −1, whatever the memories of the PPU hold. -/
theorem State.scanlineLegal_of_ppu_afterReset {s : State} {nt pal oam : Memory} (h : s.ppu = Ppu.afterReset nt pal oam) :
    s.scanlineLegal = true := by
  have hline : s.ppu.scanline = -1 := by rw [h]; rfl
  rw [State.scanlineLegal, hline]
  decide

theorem State.storesSound_reset : State.reset.storesSound = true := by
  simp [State.storesSound, State.reset, Ppu.afterReset]

/-- The blank cartridge of log entry 4 has one PRG bank. -/
theorem State.cartridgeLegal_reset : State.reset.cartridgeLegal = true := rfl

/-- Settles O55: the reset values give the status byte and the counter, the blank memories the stores, and the
one-bank cartridge the bank. -/
theorem invariantHoldsAtReset : Obligations.InvariantHoldsAtReset :=
  ⟨State.statusLegal_of_cpu_afterReset rfl, State.storesSound_reset, State.scanlineLegal_of_ppu_afterReset rfl,
    State.cartridgeLegal_reset⟩

end Sys2Proof.Machine
end

section
/-! The bus decoder range by range (20_memory.md R61–R72): the window of each range, one equation per window for a read
and for a write, the masks of the document, and what stands behind the two register windows. -/

namespace Sys2Proof.Machine

open Sys2Proof.Claims

/-! The ranges; `windowOf_high` is the last. -/

theorem windowOf_ramRange {a : Word} (h : a.toNat ≤ 0x1FFF) : windowOf a = .ram := by
  unfold windowOf; rw [if_pos h]

theorem windowOf_ppuRange {a : Word} (hlo : 0x2000 ≤ a.toNat) (hhi : a.toNat ≤ 0x3FFF) : windowOf a = .ppu := by
  unfold windowOf; rw [if_neg (by omega), if_pos hhi]

theorem windowOf_apuRange {a : Word} (hlo : 0x4000 ≤ a.toNat) (hhi : a.toNat ≤ 0x4017) : windowOf a = .apu := by
  unfold windowOf; rw [if_neg (by omega), if_neg (by omega), if_pos hhi]

theorem windowOf_undecodedRange {a : Word} (hlo : 0x4018 ≤ a.toNat) (hhi : a.toNat ≤ 0x7FFF) :
    windowOf a = .undecoded := by
  unfold windowOf; rw [if_neg (by omega), if_neg (by omega), if_neg (by omega), if_neg (by omega)]

/-! One equation per window. -/

theorem busRead_of_ppu {a : Word} (h : windowOf a = .ppu) (s : State) :
    busRead s a = ppuRegRead s (portOf a.toNat) := by simp [busRead, h]

theorem busRead_of_apu {a : Word} (h : windowOf a = .apu) (s : State) :
    busRead s a = apuRead s (apuPortOf a.toNat) := by simp [busRead, h]

theorem busWrite_of_ppu {a : Word} (h : windowOf a = .ppu) (s : State) (v : Byte) :
    busWrite s a v = .next (ppuRegWrite s (portOf a.toNat) v) := by simp [busWrite, h]

theorem busWrite_of_apu {a : Word} (h : windowOf a = .apu) (s : State) (v : Byte) :
    busWrite s a v = .next (apuWrite s (apuPortOf a.toNat) v) := by simp [busWrite, h]

theorem writeViolation_eq (s : State) (a : Word) (v : Byte) :
    writeViolation s a v = if s.writeMode = .halt then .fault (.fatal (.busWriteViolation a v)) else .next s := by
  unfold writeViolation; cases s.writeMode <;> rfl

/-- From 0x4018 on a write is a violation, below the PRG window and in it (R62, R72). -/
theorem busWrite_violates {a : Word} (h : 0x4018 ≤ a.toNat) (s : State) (v : Byte) :
    busWrite s a v = writeViolation s a v := by
  have hw : windowOf a = .undecoded ∨ windowOf a = .prg := by
    by_cases hp : 0x8000 ≤ a.toNat
    · exact .inr (windowOf_high hp)
    · exact .inl (windowOf_undecodedRange h (by omega))
  rcases hw with hw | hw <;> simp [busWrite, hw]

/-! The masks of the document are remainders. -/

/-- Masking with `n` ones keeps the number modulo `2 ^ n`. -/
theorem toNat_and_ones {mask : Word} {n : Nat} (h : mask.toNat = 2 ^ n - 1) (a : Word) :
    (a &&& mask).toNat = a.toNat % 2 ^ n := by
  rw [BitVec.toNat_and, h, Nat.and_two_pow_sub_one_eq_mod]

theorem toNat_and_07FF (a : Word) : (a &&& 0x07FF).toNat = ramIndex a := toNat_and_ones (n := 11) rfl a

theorem portOf_mod (n : Nat) : portOf (n % 8) = portOf n := by simp only [portOf, Nat.mod_mod]

theorem portOf_masked (a : Word) : portOf (a &&& 0x0007).toNat = portOf a.toNat := by
  rw [toNat_and_ones (n := 3) rfl]; exact portOf_mod _

theorem apuPortOf_mod (n : Nat) : apuPortOf (n % 32) = apuPortOf n := by simp only [apuPortOf, Nat.mod_mod]

theorem apuPortOf_masked (a : Word) : apuPortOf (a &&& 0x001F).toNat = apuPortOf a.toNat := by
  rw [toNat_and_ones (n := 5) rfl]; exact apuPortOf_mod _

theorem toNat_and_prgMask (banks : Byte) (a : Word) :
    (a &&& (if banks = 1 then 0x3FFF else 0x7FFF)).toNat = prgIndex banks a := by
  unfold prgIndex
  split
  · exact toNat_and_ones (n := 14) rfl a
  · exact toNat_and_ones (n := 15) rfl a

/-! The PRG window (R66). -/

theorem prgRead_of_banks {c : Cartridge} (h : c.prgBanks ≠ 0) (a : Word) :
    prgRead c a = Memory.read c.prg (prgIndex c.prgBanks a) := if_neg h

theorem prgRead_of_oneBank {c : Cartridge} (h : c.prgBanks = 1) (a : Word) :
    prgRead c a = Memory.read c.prg (a.toNat % 0x4000) := by
  rw [prgRead_of_banks (by rw [h]; decide), prgIndex, if_pos h]

theorem prgRead_of_moreBanks {c : Cartridge} (h : 1 < c.prgBanks.toNat) (a : Word) :
    prgRead c a = Memory.read c.prg (a.toNat % 0x8000) := by
  have h0 : c.prgBanks ≠ 0 := by intro e; rw [e] at h; contradiction
  have h1 : c.prgBanks ≠ 1 := by intro e; rw [e] at h; contradiction
  rw [prgRead_of_banks h0, prgIndex, if_neg h1]

/-- Flipping bit 14 stays in the upper half and keeps the low 14 bits. -/
theorem toNat_xor_4000 (a : Word) :
    (a ^^^ 0x4000).toNat / 0x8000 = a.toNat / 0x8000 ∧ (a ^^^ 0x4000).toNat % 0x4000 = a.toNat % 0x4000 := by
  rw [BitVec.toNat_xor]
  constructor
  · simpa using Nat.xor_div_two_pow (a := a.toNat) (b := 0x4000) (n := 15)
  · simpa using Nat.xor_mod_two_pow (a := a.toNat) (b := 0x4000) (n := 14)

/-! The registers behind the two windows (R64, R65, R68, R230). -/

/-- Eight offsets, one row of the table each. -/
theorem portOf_eq_of_portTable {n : Nat} {p : Port} (h : portTable[n % 8]? = some p) : portOf n = p := by
  have hlt : n % 8 < 8 := Nat.mod_lt _ (by decide)
  unfold portOf
  generalize n % 8 = k at h hlt
  interval_cases k <;> exact Option.some.inj h

/-- The window 0x4000–0x4017 has three registers that do something (D14, D27). -/
theorem apuPortOf_cases {a : Word} (hlo : 0x4000 ≤ a.toNat) (hhi : a.toNat ≤ 0x4017) :
    (a = 0x4014 ∧ apuPortOf a.toNat = .dma) ∨ (a = 0x4016 ∧ apuPortOf a.toNat = .joy0) ∨
    (a = 0x4017 ∧ apuPortOf a.toNat = .joy1) ∨ apuPortOf a.toNat = .unimplemented := by
  have ha : a = BitVec.ofNat 16 a.toNat := by simp
  generalize a.toNat = k at *
  subst ha
  interval_cases k <;> decide

theorem joyBit_eq_topBit (v : Byte) : joyBit v = topBit v := by
  have hlt := v.isLt
  unfold joyBit topBit
  rw [bit7_eq]
  by_cases h : 128 ≤ v.toNat
  · rw [show v.toNat / 128 = 1 by omega]; simp [h]
  · rw [show v.toNat / 128 = 0 by omega]; simp [h]

theorem shiftLeft_eq_shiftedLeft (v : Byte) : v <<< 1 = shiftedLeft v := by
  apply BitVec.eq_of_toNat_eq
  simp [shiftedLeft, Nat.shiftLeft_eq]

/-! The whole chains. -/

/-- The chain of R61 with the document's masks, for a machine with a PRG bank. -/
theorem busRead_eq {s : State} (hbank : s.cart.prgBanks ≠ 0) (a : Word) :
    busRead s a =
      if a ≤ 0x1FFF then (Memory.read s.ram (a &&& 0x07FF).toNat, s)
      else if a ≤ 0x3FFF then ppuRegRead s (portOf (a &&& 0x0007).toNat)
      else if a ≤ 0x4017 then apuRead s (apuPortOf (a &&& 0x001F).toNat)
      else if 0x8000 ≤ a then
        (Memory.read s.cart.prg (a &&& (if s.cart.prgBanks = 1 then 0x3FFF else 0x7FFF)).toNat, s)
      else (0, s) := by
  simp only [BitVec.le_def, BitVec.reduceToNat, toNat_and_07FF, portOf_masked, apuPortOf_masked, toNat_and_prgMask,
    ← prgRead_of_banks hbank]
  split_ifs with hram hppu hapu hprg
  · exact busRead_of_ram (windowOf_ramRange hram) s
  · exact busRead_of_ppu (windowOf_ppuRange (by omega) hppu) s
  · exact busRead_of_apu (windowOf_apuRange (by omega) hapu) s
  · exact busRead_of_prg (windowOf_high hprg) s
  · exact busRead_of_undecoded (windowOf_undecodedRange (by omega) (by omega)) s

/-- The chain of R62 with the document's masks. -/
theorem busWrite_eq (s : State) (a : Word) (v : Byte) :
    busWrite s a v =
      if a ≤ 0x1FFF then .next { s with ram := Memory.write s.ram (a &&& 0x07FF).toNat v }
      else if a ≤ 0x3FFF then .next (ppuRegWrite s (portOf (a &&& 0x0007).toNat) v)
      else if a ≤ 0x4017 then .next (apuWrite s (apuPortOf (a &&& 0x001F).toNat) v)
      else if s.writeMode = .halt then .fault (.fatal (.busWriteViolation a v))
      else .next s := by
  rw [← writeViolation_eq]
  simp only [BitVec.le_def, BitVec.reduceToNat, toNat_and_07FF, portOf_masked, apuPortOf_masked]
  split_ifs with hram hppu hapu
  · exact busWrite_of_ram (windowOf_ramRange hram) s v
  · exact busWrite_of_ppu (windowOf_ppuRange (by omega) hppu) s v
  · exact busWrite_of_apu (windowOf_apuRange (by omega) hapu) s v
  · exact busWrite_violates (by omega) s v

/-! The obligations. -/

/-- Settles O33: both addresses are in the RAM window, where a write is one write of the store at the index. -/
theorem ramIsMirroredFourTimes : Obligations.RamIsMirroredFourTimes := by
  intro s a b v hwf ha hb
  have hread := busRead_of_ram (windowOf_ramRange hb)
  refine ⟨by rw [hread, toNat_and_07FF], _, busWrite_of_ram (windowOf_ramRange ha) s v, ?_⟩
  rw [hread, hread, State.setRam_ram, Memory.read_write_wf hwf]
  simp only [ramIndex, eq_comm (a := b.toNat % 0x0800)]

/-- Settles O34: the window's reads are reads of the store at the masked address, and bit 14 is masked off of one
bank. -/
theorem prgWindowShowsTheBanks : Obligations.PrgWindowShowsTheBanks := by
  intro s a ha
  have hlt := a.isLt
  obtain ⟨hdiv, hmod⟩ := toNat_xor_4000 a
  have hread := busRead_of_prg (windowOf_high ha) s
  have hother := busRead_of_prg (windowOf_high (a := a ^^^ 0x4000) (by omega)) s
  have one (h : s.cart.prgBanks = 1) : (busRead s a).1 = Memory.read s.cart.prg (a.toNat % 0x4000) := by
    rw [hread, prgRead_of_oneBank h]
  have more (h : 1 < s.cart.prgBanks.toNat) : (busRead s a).1 = Memory.read s.cart.prg (a.toNat - 0x8000) := by
    rw [hread, prgRead_of_moreBanks h, show a.toNat % 0x8000 = a.toNat - 0x8000 by omega]
  refine ⟨by rw [hread], one, fun h => ?_, more, fun k hk hvec => ⟨fun h => ?_, fun h => ?_⟩⟩
  · rw [hread, hother, prgRead_of_oneBank h, prgRead_of_oneBank h, hmod]
  · rw [one h, show a.toNat % 0x4000 = 0x3FFA + k by omega]
  · rw [more h, show a.toNat - 0x8000 = 0x7FFA + k by omega]

/-- Settles O35: the whole range is undecoded. -/
theorem undecodedReadsGiveZero : Obligations.UndecodedReadsGiveZero :=
  fun s _ hlo hhi => busRead_of_undecoded (windowOf_undecodedRange hlo hhi) s

/-- Settles O31: the chain, then the two register windows, a register at a time. -/
theorem readDecoder : Obligations.ReadDecoder := by
  intro s a hbank
  refine ⟨busRead_eq hbank a, fun hlo hhi p hp => ?_, fun hlo hhi h0 h1 => ?_, ?_, ?_⟩
  · rw [busRead_of_ppu (windowOf_ppuRange hlo hhi), portOf_eq_of_portTable hp]
  · rw [busRead_of_apu (windowOf_apuRange hlo hhi)]
    rcases apuPortOf_cases hlo hhi with ⟨-, h⟩ | ⟨e, -⟩ | ⟨e, -⟩ | h
    · rw [h]; rfl
    · exact absurd e h0
    · exact absurd e h1
    · rw [h]; rfl
  · rw [← joyBit_eq_topBit, ← shiftLeft_eq_shiftedLeft]; rfl
  · rw [← joyBit_eq_topBit, ← shiftLeft_eq_shiftedLeft]; rfl

/-- Settles O32: the chain, then the two register windows, a register at a time. -/
theorem writeDecoder : Obligations.WriteDecoder := by
  intro s a v
  refine ⟨busWrite_eq s a v, fun hlo hhi p hp => ?_, rfl, rfl, fun hlo hhi hdma h0 => ?_⟩
  · rw [busWrite_of_ppu (windowOf_ppuRange hlo hhi), portOf_eq_of_portTable hp]
  · rw [busWrite_of_apu (windowOf_apuRange hlo hhi)]
    rcases apuPortOf_cases hlo hhi with ⟨e, -⟩ | ⟨e, -⟩ | ⟨-, h⟩ | h
    · exact absurd e hdma
    · exact absurd e h0
    · rw [h]; rfl
    · rw [h]; rfl

end Sys2Proof.Machine
end

section
/-! The PPU's own address space in the document's words (20_memory.md R84, R87): where an address of the nametable range
and of the palette range leads, and read after write through the mirrors. -/

namespace Sys2Proof.Machine

open Sys2Proof.Claims

theorem nametableOf_eq_tableOf (m : Mirroring) (a : Nat) : nametableOf m ((a / 0x400) % 4) = tableOf m a := by
  have hq : (a >>> 10) &&& 3 = (a / 0x400) % 4 := by
    rw [Nat.shiftRight_eq_div_pow, Nat.and_two_pow_sub_one_eq_mod _ 2]
  have hlt : (a / 0x400) % 4 < 4 := Nat.mod_lt _ (by decide)
  unfold tableOf
  rw [hq]
  generalize (a / 0x400) % 4 = q at hlt
  cases m <;> interval_cases q <;> rfl

theorem paletteSlot_eq_slotOf (a : Nat) : paletteSlot a = slotOf a := by
  have hmask : a &&& 0x1F = a % 32 := Nat.and_two_pow_sub_one_eq_mod a 5
  simp only [paletteSlot, slotOf, hmask]

theorem vramPlace_of_inNametables {a : Nat} (h : inNametables a = true) (m : Mirroring) :
    vramPlace m a = .nt (0x400 * tableOf m a + a % 0x400) := by
  obtain ⟨hlo, hhi⟩ : 0x2000 ≤ a ∧ a < 0x3F00 := by simpa [inNametables] using h
  have hmod : a % 0x4000 = a := Nat.mod_eq_of_lt (by omega)
  simp only [vramPlace, hmod]
  rw [if_neg (by omega), if_pos hhi, nametableOf_eq_tableOf, Nat.mul_comm]

theorem vramPlace_of_inPalette {a : Nat} (h : inPalette a = true) (m : Mirroring) :
    vramPlace m a = .pal (slotOf a) := by
  obtain ⟨hlo, hhi⟩ : 0x3F00 ≤ a ∧ a < 0x4000 := by simpa [inPalette] using h
  simp only [vramPlace, Nat.mod_eq_of_lt hhi]
  rw [if_neg (by omega), if_neg (by omega), paletteSlot_eq_slotOf]

theorem vramRead_of_inNametables {a : Nat} (h : inNametables a = true) (s : State) :
    vramRead s a = Memory.read s.ppu.nt (0x400 * tableOf s.cart.mirroring a + a % 0x400) := by
  simp only [vramRead, vramPlace_of_inNametables h]

theorem vramRead_of_inPalette {a : Nat} (h : inPalette a = true) (s : State) :
    vramRead s a = Memory.read s.ppu.pal (slotOf a) := by
  simp only [vramRead, vramPlace_of_inPalette h]

theorem vramWrite_of_inNametables {a : Nat} (h : inNametables a = true) (s : State) (v : Byte) :
    vramWrite s a v = s.setPpu { s.ppu with
      nt := Memory.write s.ppu.nt (0x400 * tableOf s.cart.mirroring a + a % 0x400) v } := by
  simp only [vramWrite, vramPlace_of_inNametables h]

theorem vramWrite_of_inPalette {a : Nat} (h : inPalette a = true) (s : State) (v : Byte) :
    vramWrite s a v = s.setPpu { s.ppu with pal := Memory.write s.ppu.pal (slotOf a) v } := by
  simp only [vramWrite, vramPlace_of_inPalette h]

/-- Two offsets below a table's size: the index determines the table and the offset. -/
theorem nametableIndex_inj {t u : Nat} (a b : Nat) :
    0x400 * u + b % 0x400 = 0x400 * t + a % 0x400 ↔ t = u ∧ a % 0x400 = b % 0x400 := by
  constructor
  · intro h; constructor <;> omega
  · rintro ⟨rfl, h⟩; rw [h]

/-- Settles O44: a nametable address is an index, and the index determines table and offset. -/
theorem nametablesAreMirrored : Obligations.NametablesAreMirrored := by
  intro s a b v hwf ha hb
  refine ⟨vramRead_of_inNametables hb s, ?_⟩
  rw [vramRead_of_inNametables hb, vramRead_of_inNametables hb, vramWrite_of_inNametables ha]
  simp only [State.setPpu_ppu, State.setPpu_cart, Memory.read_write_wf hwf, nametableIndex_inj]

/-- Settles O45: a palette address is its slot. -/
theorem paletteSlotsAlias : Obligations.PaletteSlotsAlias := by
  intro s a b v hwf ha hb
  refine ⟨vramRead_of_inPalette hb s, ?_⟩
  rw [vramRead_of_inPalette hb, vramRead_of_inPalette hb, vramWrite_of_inPalette ha, State.setPpu_ppu]
  simp only [Memory.read_write_wf hwf, eq_comm (a := slotOf b)]

end Sys2Proof.Machine
end

section
/-! The cartridge loader (20_memory.md R91–R95): the header's fields as numbers, the stores byte by byte, and one
equation per outcome of `cartLoad`. -/

namespace Sys2Proof.Machine

open Sys2Proof.Claims

/-! The header's fields (R91, D52). -/

theorem bitNat_eq (v : Byte) (i : Nat) : bitNat v i = if bit v i = true then 1 else 0 := by
  unfold bitNat bit BitVec.getLsbD
  rw [Nat.and_one_is_mod, Nat.shiftRight_eq_div_pow, Nat.testBit_eq_decide_div_mod_eq]
  rcases Nat.mod_two_eq_zero_or_one (v.toNat / 2 ^ i) with h | h <;> simp [h]

theorem bitNat_eq_one {v : Byte} {i : Nat} : bitNat v i = 1 ↔ bit v i = true := by
  rw [bitNat_eq]; cases bit v i <;> decide

theorem bitNat_eq_zero {v : Byte} {i : Nat} : bitNat v i = 0 ↔ bit v i = false := by
  rw [bitNat_eq]; cases bit v i <;> decide

theorem prgOffset_eq (image : List Byte) : prgOffset image = 16 + 512 * bitNat (imageByte image 6) 2 := by
  rw [prgOffset, headerSize, bitNat_eq]; cases bit (imageByte image 6) 2 <;> rfl

theorem prgSize_eq (image : List Byte) : prgSize image = 16384 * (imageByte image 4).toNat := Nat.mul_comm ..

theorem chrSize_eq (image : List Byte) : chrSize image = 8192 * (imageByte image 5).toNat := Nat.mul_comm ..

theorem headerMirroring_eq (image : List Byte) :
    headerMirroring image = if bitNat (imageByte image 6) 0 = 1 then .vertical else .horizontal := by
  simp only [headerMirroring, bitNat_eq_one]

/-- A mask of two bits gives the upper one alone exactly when that is set and the lower is clear. -/
theorem and_0C_eq_08 (b : Byte) : b &&& 0x0C = 0x08 ↔ bit b 3 = true ∧ bit b 2 = false := by
  constructor
  · intro h
    have h3 := congrArg (bit · 3) h
    have h2 := congrArg (bit · 2) h
    exact ⟨by simpa [bit] using h3, by simpa [bit] using h2⟩
  · rintro ⟨h3, h2⟩
    have h3 : b[3] = true := by simpa [bit] using h3
    have h2 : b[2] = false := by simpa [bit] using h2
    refine BitVec.eq_of_getLsbD_eq fun i hi => ?_
    interval_cases i <;> simp [h3, h2]

theorem extendedFormat_iff (image : List Byte) :
    extendedFormat image = true ↔ bitNat (imageByte image 7) 3 = 1 ∧ bitNat (imageByte image 7) 2 = 0 := by
  rw [extendedFormat, beq_iff_eq, and_0C_eq_08, bitNat_eq_one, bitNat_eq_zero]

theorem and_F0_toNat (b : Byte) : (b &&& (0xF0 : Byte)).toNat = 2 ^ 4 * (b.toNat / 16) := by
  have hlt := b.isLt
  have hlow : (b.toNat &&& 0xF0) % 2 ^ 4 = 0 := by rw [Nat.and_mod_two_pow]; simp
  have hhigh : (b.toNat &&& 0xF0) / 2 ^ 4 = b.toNat / 16 := by
    rw [Nat.and_div_two_pow]
    exact (Nat.and_two_pow_sub_one_eq_mod _ 4).trans (Nat.mod_eq_of_lt (by omega))
  rw [BitVec.toNat_and]
  change b.toNat &&& 0xF0 = _
  omega

theorem headerMapper_toNat (image : List Byte) :
    (headerMapper image).toNat = (imageByte image 7).toNat / 16 * 16 + (imageByte image 6).toNat / 16 := by
  have hlt : (imageByte image 6).toNat / 16 < 2 ^ 4 := by have := (imageByte image 6).isLt; omega
  rw [headerMapper, BitVec.toNat_or, and_F0_toNat, BitVec.toNat_ushiftRight, Nat.shiftRight_eq_div_pow,
    ← Nat.two_pow_add_eq_or_of_lt hlt, Nat.mul_comm]

/-- The first four bytes are the magic exactly when each of them is. -/
theorem take_four_eq_headerMagic {image : List Byte} (h : 4 ≤ image.length) :
    image.take 4 = headerMagic ↔
      (imageByte image 0, imageByte image 1, imageByte image 2, imageByte image 3) = (0x4E, 0x45, 0x53, 0x1A) := by
  match image, h with
  | a :: b :: c :: d :: rest, _ => simp [imageByte, headerMagic]

/-! The stores (R92). -/

/-- A store copied from a slice of the image holds the image's bytes from the slice's start on. -/
theorem Memory.read_ofBytes_slice {image : List Byte} {start size k : Nat} (h : start + size ≤ image.length)
    (hk : k < size) :
    Memory.read (Memory.ofBytes ((image.drop start).take size)) k = imageByte image (start + k) := by
  have hlen : k < ((image.drop start).take size).length := by simp; omega
  have hread := Memory.read_ofBytesFrom ((image.drop start).take size) 0 k hlen
  rw [Nat.zero_add] at hread
  rw [Memory.ofBytes, hread, imageByte, List.getD_eq_getElem?_getD, List.getD_eq_getElem?_getD,
    List.getElem?_take_of_lt hk, List.getElem?_drop]
  rfl

theorem cartridgeOf_prg {image : List Byte} {k : Nat} (chrInit : Memory)
    (h : prgOffset image + prgSize image ≤ image.length) (hk : k < prgSize image) :
    Memory.read (cartridgeOf image chrInit).prg k = imageByte image (prgOffset image + k) :=
  Memory.read_ofBytes_slice h hk

theorem cartridgeOf_chr {image : List Byte} {k : Nat} (chrInit : Memory)
    (h : prgOffset image + prgSize image + chrSize image ≤ image.length) (hk : k < chrSize image) :
    Memory.read (cartridgeOf image chrInit).chr k = imageByte image (prgOffset image + prgSize image + k) := by
  have hbanks : imageByte image 5 ≠ 0 := by intro e; simp [chrSize, e] at hk
  rw [cartridgeOf, if_neg hbanks]
  exact Memory.read_ofBytes_slice h hk

theorem cartridgeOf_chrRam {image : List Byte} (chrInit : Memory) (h : imageByte image 5 = 0) :
    (cartridgeOf image chrInit).chr = chrInit := if_pos h

/-! The outcomes, in the order of the checks (R92; log entry 10). -/

theorem cartLoad_again {s : State} (h : s.phase ≠ .noCartridge) (image : List Byte) :
    cartLoad image s = .refused .cartridgeAlreadyLoaded := by
  unfold cartLoad
  cases hp : s.phase
  · exact absurd hp h
  · rfl
  · rfl

section
variable {s : State} {image : List Byte} (hphase : s.phase = .noCartridge)
include hphase

theorem cartLoad_of_lt_four (h : image.length < 4) : cartLoad image s = .refused .imageTooShort := by
  simp only [cartLoad, hphase, if_pos h]

theorem cartLoad_badMagic (h : 4 ≤ image.length) (hmagic : image.take 4 ≠ headerMagic) :
    cartLoad image s = .fault (.fatal .badMagic) := by
  simp only [cartLoad, hphase, if_neg (Nat.not_lt.2 h), if_pos hmagic]

variable (hmagic : image.take 4 = headerMagic)
include hmagic

theorem cartLoad_shortHeader (h4 : 4 ≤ image.length) (h : image.length < 16) :
    cartLoad image s = .refused .imageTooShort := by
  simp only [cartLoad, hphase, if_neg (Nat.not_lt.2 h4), hmagic, headerSize, ne_eq, not_true, if_false]
  exact if_pos h

/-- The checks after a whole header with the right magic. -/
theorem cartLoad_of_header (h : 16 ≤ image.length) :
    cartLoad image s =
      if extendedFormat image = true then .fault (.fatal .unsupportedFileType)
      else if imageByte image 4 = 0 then .refused .noPrgBanks
      else if image.length < prgOffset image + prgSize image + chrSize image then .refused .imageTooShort
      else .next { s with cart := cartridgeOf image s.cart.chr, halted := none, phase := .loaded } := by
  have h4 : ¬ image.length < 4 := by omega
  simp only [cartLoad, hphase, if_neg h4, hmagic, headerSize, ne_eq, not_true, if_false]
  exact if_neg (Nat.not_lt.2 h)

end

/-- Settles O52: each premise selects the branch of its check, and the loaded cartridge is read field by field. -/
theorem loaderReadsTheImage : Obligations.LoaderReadsTheImage := by
  intro s image h p prg chr
  have hp : p = prgOffset image := (prgOffset_eq image).symm
  have hprg : prg = prgSize image := (prgSize_eq image).symm
  have hchr : chr = chrSize image := (chrSize_eq image).symm
  refine ⟨fun hphase => cartLoad_again hphase image, fun hphase hshort => ?_, fun hphase hlen => ?_⟩
  · by_cases h4 : 4 ≤ image.length
    · by_cases hmagic : image.take 4 = headerMagic
      · rw [if_neg fun hwrong => hwrong.2 ((take_four_eq_headerMagic h4).1 hmagic)]
        exact cartLoad_shortHeader hphase hmagic h4 hshort
      · rw [if_pos ⟨h4, fun e => hmagic ((take_four_eq_headerMagic h4).2 e)⟩]
        exact cartLoad_badMagic hphase h4 hmagic
    · rw [if_neg fun hwrong => h4 hwrong.1]
      exact cartLoad_of_lt_four hphase (by omega)
  · have h4 : 4 ≤ image.length := by omega
    refine ⟨fun hwrong => cartLoad_badMagic hphase h4 (mt (take_four_eq_headerMagic h4).1 hwrong), fun hmagic => ?_⟩
    rw [cartLoad_of_header hphase ((take_four_eq_headerMagic h4).2 hmagic) hlen, ← extendedFormat_iff, hp, hprg, hchr]
    refine ⟨fun hext => if_pos hext, fun hext => ?_⟩
    rw [if_neg hext]
    refine ⟨fun hbanks => if_pos hbanks, fun hbanks hshort => ?_, fun hbanks henough => ?_⟩
    · rw [if_neg hbanks, if_pos hshort]
    · rw [if_neg hbanks, if_neg (Nat.not_lt.2 henough)]
      exact ⟨_, rfl, rfl, rfl, rfl, headerMirroring_eq image, headerMapper_toNat image,
        fun k hk => cartridgeOf_prg _ (by omega) hk, fun k hk => cartridgeOf_chr _ henough hk,
        fun hram => cartridgeOf_chrRam _ hram⟩

end Sys2Proof.Machine
end

section
/-! The decoder's table (30_encoding.md R110, R125, R126): the row of the matrix an opcode byte stands in, that every
instruction has its entry and every entry encodes back, and what the decoder answers in each case. -/

namespace Sys2Proof

open Sys2Proof.Machine (wordOf loByte hiByte wordOf_halves)

/-! Looking up an opcode byte searches one row of the matrix. -/

/-- The row of the matrix whose bytes have high nibble `n` (R125). -/
def opRow (n : Nat) : List (Byte × Form) :=
  [opRow0, opRow1, opRow2, opRow3, opRow4, opRow5, opRow6, opRow7, opRow8, opRow9, opRowA, opRowB, opRowC, opRowD,
    opRowE, opRowF].getD n []

theorem opTable_eq_flatMap_opRow : opTable = (List.range 16).flatMap opRow := by
  simp only [opTable, List.append_assoc]; rfl

theorem opRow_highNibble : ∀ n < 16, ∀ e ∈ opRow n, e.1.toNat / 16 = n := by decide

theorem lookupIn_append (t u : List (Byte × Form)) (op : Byte) :
    lookupIn (t ++ u) op = (lookupIn t op).or (lookupIn u op) := by
  induction t with
  | nil => rfl
  | cons e t ih => simp only [List.cons_append, lookupIn]; split <;> simp [ih]

theorem mem_of_lookupIn {op : Byte} {f : Form} : ∀ {t : List (Byte × Form)}, lookupIn t op = some f → (op, f) ∈ t
  | (k, g) :: t, h => by
    simp only [lookupIn] at h
    split at h
    · next he => cases h; rw [he]; exact .head _
    · exact .tail _ (mem_of_lookupIn h)

theorem lookupIn_opRow_of_ne {op : Byte} {n : Nat} (hn : n < 16) (h : op.toNat / 16 ≠ n) :
    lookupIn (opRow n) op = none :=
  Option.eq_none_iff_forall_ne_some.2 fun _ hf => h (opRow_highNibble n hn _ (mem_of_lookupIn hf))

/-- Of several rows only the byte's own contributes. -/
theorem lookupIn_flatMap_opRow (op : Byte) : ∀ rows : List Nat, (∀ n ∈ rows, n < 16) →
    lookupIn (rows.flatMap opRow) op = if op.toNat / 16 ∈ rows then lookupIn (opRow (op.toNat / 16)) op else none
  | [], _ => by simp [lookupIn]
  | n :: rows, hlt => by
    have ih := lookupIn_flatMap_opRow op rows fun m hm => hlt m (.tail _ hm)
    rw [List.flatMap_cons, lookupIn_append, ih]
    by_cases h : op.toNat / 16 = n
    · subst h; split <;> simp
    · simp [lookupIn_opRow_of_ne (hlt n (.head _)) h, h]

theorem lookupOpcode_eq_row (op : Byte) : lookupOpcode op = lookupIn (opRow (op.toNat / 16)) op := by
  have hmem : op.toNat / 16 ∈ List.range 16 := List.mem_range.2 (by have := op.isLt; omega)
  rw [lookupOpcode, opTable_eq_flatMap_opRow, lookupIn_flatMap_opRow op _ fun _ => List.mem_range.1, if_pos hmem]

/-- The bytes that stand in no row are those R126 lists. -/
theorem lookupOpcode_eq_none {op : Byte} : lookupOpcode op = none ↔ undefinedOpcode op = true := by
  have rows : ∀ op : Byte, (lookupIn (opRow (op.toNat / 16)) op).isNone = undefinedOpcode op := by decide
  rw [← rows, lookupOpcode_eq_row, Option.isNone_iff_eq_none]

theorem lookupOpcode_of_defined {op : Byte} (h : undefinedOpcode op = false) : ∃ f, lookupOpcode op = some f :=
  Option.ne_none_iff_exists'.1 fun hnone => by rw [lookupOpcode_eq_none.1 hnone] at h; contradiction

/-! The entries. -/

/-- How many operand bytes an entry takes (R110). -/
def Form.operandCount : Form → Nat
  | .implied _ => 0
  | .byteOperand _ => 1
  | .wordOperand _ => 2

/-- The instruction an entry makes when the two bytes after the opcode are the halves of `w`. -/
def Form.instrOf (w : Word) : Form → Instr
  | .implied i => i
  | .byteOperand make => make (loByte w)
  | .wordOperand make => make w

/-- What an entry makes is encoded by the entry's byte and the operand bytes it was made from: an equation per entry,
which holds by definition for every operand. -/
theorem opTable_encode : ∀ e ∈ opTable, ∀ w,
    encode (e.2.instrOf w) = e.1 :: [loByte w, hiByte w].take e.2.operandCount := by
  rw [← List.forall_iff_forall_mem]
  repeat' apply And.intro
  all_goals exact fun _ => rfl

/-- Every instruction has an entry, which makes it from its own operand bytes. -/
theorem lookupOpcode_opcode (i : Instr) :
    ∃ f, lookupOpcode i.opcode = some f ∧ takeOperands i.opcode f i.operandBytes = .instr i [] := by
  rw [lookupOpcode_eq_row]
  cases i <;> refine ⟨_, by simp only [Instr.opcode, BitVec.reduceToNat, Nat.reduceDiv]; exact rfl, ?_⟩ <;>
    simp only [Instr.operandBytes, takeOperands, wordOf_halves]

theorem encode_length (i : Instr) : (encode i).length = i.length := by cases i <;> rfl

/-- Operand bytes are missing, or the entry's instruction is made and the rest is left (R110). -/
theorem takeOperands_eq (op : Byte) (f : Form) (bs : List Byte) :
    takeOperands op f bs =
      if bs.length < f.operandCount then .truncated op
      else .instr (f.instrOf (wordOf (bs.getD 0 0) (bs.getD 1 0))) (bs.drop f.operandCount) := by
  rcases f with i | make | make <;> rcases bs with - | ⟨lo, - | ⟨hi, bs⟩⟩ <;>
    simp [takeOperands, Form.operandCount, Form.instrOf]

theorem length_of_lookupOpcode {i : Instr} {f : Form} (h : lookupOpcode i.opcode = some f) :
    i.length = f.operandCount + 1 := by
  obtain ⟨g, hg, htake⟩ := lookupOpcode_opcode i
  cases h.symm.trans hg
  rw [takeOperands_eq] at htake
  split at htake
  · contradiction
  · have hdrop := congrArg List.length (Decoded.instr.inj htake).2
    rw [List.length_drop, List.length_nil] at hdrop
    rw [← encode_length, encode, List.length_cons]
    omega

theorem exists_instr_of_lookupOpcode {op : Byte} {f : Form} (h : lookupOpcode op = some f) :
    ∃ i : Instr, i.opcode = op :=
  ⟨f.instrOf 0, (List.cons.inj (opTable_encode _ (mem_of_lookupIn h) 0)).1⟩

/-! The answers of the decoder. -/

theorem decode_of_lookup_none {op : Byte} (h : lookupOpcode op = none) (rest : List Byte) :
    decode (op :: rest) = .undefinedOpcode op := by simp only [decode, h]

theorem decode_of_lookup_some {op : Byte} {f : Form} (h : lookupOpcode op = some f) (rest : List Byte) :
    decode (op :: rest) =
      if rest.length < f.operandCount then .truncated op
      else .instr (f.instrOf (wordOf (rest.getD 0 0) (rest.getD 1 0))) (rest.drop f.operandCount) := by
  rw [← takeOperands_eq]; simp only [decode, h]

theorem decode_eq_undefinedOpcode {op op' : Byte} {rest : List Byte} :
    decode (op :: rest) = .undefinedOpcode op' ↔ undefinedOpcode op = true ∧ op' = op := by
  rw [← lookupOpcode_eq_none]
  cases h : lookupOpcode op with
  | none => simp [decode_of_lookup_none h, eq_comm]
  | some f => rw [decode_of_lookup_some h]; split <;> simp

theorem decode_eq_truncated {op op' : Byte} {rest : List Byte} :
    decode (op :: rest) = .truncated op' ↔ (∃ i : Instr, i.opcode = op ∧ rest.length + 1 < i.length) ∧ op' = op := by
  cases h : lookupOpcode op with
  | none =>
    rw [decode_of_lookup_none h]
    refine ⟨fun e => by contradiction, fun ⟨⟨i, hi, _⟩, _⟩ => ?_⟩
    obtain ⟨f, hf, -⟩ := lookupOpcode_opcode i
    rw [hi, h] at hf
    contradiction
  | some f =>
    have hlen : (∃ i : Instr, i.opcode = op ∧ rest.length + 1 < i.length) ↔ rest.length < f.operandCount := by
      constructor
      · rintro ⟨i, rfl, hi⟩
        rw [length_of_lookupOpcode h] at hi
        omega
      · intro hlt
        obtain ⟨i, rfl⟩ := exists_instr_of_lookupOpcode h
        exact ⟨i, rfl, by rw [length_of_lookupOpcode h]; omega⟩
    rw [hlen, decode_of_lookup_some h]
    split <;> simp [*, eq_comm]

theorem decode_eq_empty {bs : List Byte} : decode bs = .empty ↔ bs = [] := by
  cases bs with
  | nil => exact iff_of_true rfl rfl
  | cons op rest =>
    refine iff_of_false (fun e => ?_) (List.cons_ne_nil _ _)
    cases h : lookupOpcode op with
    | none => rw [decode_of_lookup_none h] at e; contradiction
    | some f => rw [decode_of_lookup_some h] at e; split at e <;> contradiction

/-- A defined opcode byte with all its operand bytes decodes. -/
theorem decode_of_enough {op : Byte} {rest : List Byte} (hdef : undefinedOpcode op = false)
    (henough : ∀ i : Instr, i.opcode = op → i.length ≤ rest.length + 1) :
    ∃ i left, decode (op :: rest) = .instr i left := by
  obtain ⟨f, hf⟩ := lookupOpcode_of_defined hdef
  obtain ⟨i, rfl⟩ := exists_instr_of_lookupOpcode hf
  have hlen := length_of_lookupOpcode hf
  have := henough i rfl
  exact ⟨_, _, by rw [decode_of_lookup_some hf, if_neg (by omega)]⟩

/-- Settles O2: one equivalence per answer of the decoder; the 105 bytes are counted. -/
theorem decoderRefusesExactlyTheUndefined : Obligations.DecoderRefusesExactlyTheUndefined := by
  refine ⟨fun op rest => ?_, fun op rest => ?_, fun bs => decode_eq_empty, by decide, fun op op' rest h => ?_,
    fun op rest => decode_of_enough⟩
  · rw [decode_eq_undefinedOpcode, and_iff_left rfl]
  · rw [decode_eq_truncated, and_iff_left rfl]
  · rcases h with h | h
    · exact (decode_eq_undefinedOpcode.1 h).2
    · exact (decode_eq_truncated.1 h).2

end Sys2Proof
end

section
/-! `OnlyPortsMoved`, the frame of a bus read (20_memory.md R76): it composes, it does not look at `PC`, and every bus
read keeps it. -/

namespace Sys2Proof.Claims

open Sys2Proof.Machine

theorem onlyPortsMoved_iff {s t : State} : OnlyPortsMoved s t ↔
    ∃ vblank w dataLatch vramAddr shift0 shift1, t = { s with
      ppu := { s.ppu with vblank := vblank, w := w, dataLatch := dataLatch, vramAddr := vramAddr }
      joy := { s.joy with shift0 := shift0, shift1 := shift1 } } :=
  ⟨fun h => ⟨_, _, _, _, _, _, h⟩, by rintro ⟨_, _, _, _, _, _, rfl⟩; rfl⟩

theorem OnlyPortsMoved.refl (s : State) : OnlyPortsMoved s s := rfl

theorem OnlyPortsMoved.trans {s t u : State} (h : OnlyPortsMoved s t) (k : OnlyPortsMoved t u) :
    OnlyPortsMoved s u := by
  obtain ⟨_, _, _, _, _, _, rfl⟩ := onlyPortsMoved_iff.1 h
  obtain ⟨_, _, _, _, _, _, rfl⟩ := onlyPortsMoved_iff.1 k
  rfl

theorem OnlyPortsMoved.setPc {s t : State} (h : OnlyPortsMoved s t) (pc : Word) :
    OnlyPortsMoved (s.setPc pc) (t.setPc pc) := by
  obtain ⟨_, _, _, _, _, _, rfl⟩ := onlyPortsMoved_iff.1 h
  rfl

theorem busRead_onlyPortsMoved (s : State) (a : Word) : OnlyPortsMoved s (busRead s a).2 := by
  obtain ⟨q, j0, j1, h, hq⟩ := busRead_state s a
  exact onlyPortsMoved_iff.2 ⟨q.vblank, q.w, q.dataLatch, q.vramAddr, j0, j1, by rw [h, ← hq]; rfl⟩

end Sys2Proof.Claims
end

section
/-! Fetching (30_encoding.md R111): the bytes fetched one after another from `PC` are the ones the step takes, and
fetching them moves `PC` and what a bus read moves. -/

namespace Sys2Proof.Machine

open Sys2Proof.Claims

/-! Bytes fetched one after another. -/

theorem fetchBytes_succ (n : Nat) (s : State) : fetchBytes (n + 1) s =
    ((fetch8 s).1 :: (fetchBytes n (fetch8 s).2).1, (fetchBytes n (fetch8 s).2).2) := rfl

theorem fetchBytes_cpu : ∀ (n : Nat) (s : State),
    (fetchBytes n s).2.cpu = { s.cpu with pc := s.cpu.pc + BitVec.ofNat 16 n }
  | 0, s => by simp [fetchBytes]
  | n + 1, s => by
    rw [fetchBytes_succ, fetchBytes_cpu n, fetch8_cpu, Nat.add_comm n 1, BitVec.ofNat_add, ← BitVec.add_assoc]
    rfl

theorem fetchBytes_onlyPortsMoved : ∀ (n : Nat) (s : State),
    OnlyPortsMoved (s.setPc (fetchBytes n s).2.cpu.pc) (fetchBytes n s).2
  | 0, s => .refl s
  | n + 1, s =>
    ((busRead_onlyPortsMoved s s.cpu.pc).setPc _).trans (fetchBytes_onlyPortsMoved n (fetch8 s).2)

/-- The operand bytes of an entry are the next bytes fetched, as many as it takes (R110). -/
theorem fetchOperands_of_takeOperands {op : Byte} {f : Form} {i : Instr} {s : State}
    (h : takeOperands op f (fetchBytes f.operandCount s).1 = .instr i []) :
    fetchOperands f s = (i, (fetchBytes f.operandCount s).2) := by
  cases f <;> obtain ⟨rfl, -⟩ := Decoded.instr.inj h <;> rfl

theorem fetchInstr_of_lookup_some {s : State} {f : Form} (h : lookupOpcode (busRead s s.cpu.pc).1 = some f) :
    fetchInstr s = .instr (fetchOperands f (fetch8 s).2).1 (fetchOperands f (fetch8 s).2).2 := by
  simp only [fetchInstr, fetch8, h]

theorem fetchInstr_of_lookup_none {s : State} (h : lookupOpcode (busRead s s.cpu.pc).1 = none) :
    fetchInstr s = .undefinedOpcode (busRead s s.cpu.pc).1 s.cpu.pc := by
  simp only [fetchInstr, fetch8, h]

/-- Where the fetched bytes are an instruction's encoding, the fetch finds it (R111). -/
theorem fetchInstr_of_fetchBytes {s t : State} {i : Instr} (h : fetchBytes i.length s = (encode i, t)) :
    fetchInstr s = .instr i t := by
  obtain ⟨f, hf, htake⟩ := lookupOpcode_opcode i
  rw [length_of_lookupOpcode hf, fetchBytes_succ] at h
  obtain ⟨hbytes, rfl⟩ := Prod.mk.inj h
  obtain ⟨hop, hoperands⟩ := List.cons.inj hbytes
  rw [← hop] at hf
  rw [← hoperands] at htake
  rw [fetchInstr_of_lookup_some hf, fetchOperands_of_takeOperands htake]

theorem step_of_instr {s t : State} {i : Instr} (hready : s.Ready) (h : fetchInstr s = .instr i t) :
    step s = exec i t := by rw [step, whenReady_of_ready hready, h]

theorem step_of_undefinedOpcode {s : State} (hready : s.Ready) (h : undefinedOpcode (busRead s s.cpu.pc).1 = true) :
    step s = .fault (.fatal (.undefinedOpcode (busRead s s.cpu.pc).1 s.cpu.pc)) := by
  rw [step, whenReady_of_ready hready, fetchInstr_of_lookup_none (lookupOpcode_eq_none.2 h)]

/-- Settles O4: the fetch finds the instruction, and its frame is that of its bus reads. -/
theorem stepRunsTheFetchedInstruction : Obligations.StepRunsTheFetchedInstruction := by
  refine ⟨fun s i t hready _ h => ?_, fun s hready h => step_of_undefinedOpcode hready h⟩
  have hcpu := fetchBytes_cpu i.length s
  have hframe := fetchBytes_onlyPortsMoved i.length s
  rw [h] at hcpu hframe
  exact ⟨step_of_instr hready (fetchInstr_of_fetchBytes h), hcpu, hframe⟩

end Sys2Proof.Machine
end

section
/-! Effective addresses as numbers (30_encoding.md R115–R123). -/

namespace Sys2Proof.Machine

open Sys2Proof.Claims

theorem wordOf_eq_wordNat (lo hi : Byte) : wordOf lo hi = wordNat lo hi := by
  apply BitVec.eq_of_toNat_eq
  have := lo.isLt; have := hi.isLt
  rw [wordOf_toNat, wordNat, BitVec.toNat_ofNat, Nat.mod_eq_of_lt (by omega)]

/-- A read of zero page is a read of work RAM (R77). -/
theorem busRead_zext (b : Byte) (s : State) : busRead s (zext b) = (Memory.read s.ram b.toNat, s) := by
  rw [busRead_of_ram (windowOf_zext b).1, (windowOf_zext b).2]

theorem add_zext_toNat (a : Word) (b : Byte) : (a + zext b).toNat = (a.toNat + b.toNat) % 65536 := by
  rw [BitVec.toNat_add, zext, zext_toNat]

theorem zext_add_toNat (z b : Byte) : (zext (z + b)).toNat = (z.toNat + b.toNat) % 256 := by
  rw [zext, zext_toNat, BitVec.toNat_add]

/-- Settles O29: each sum wraps at the width it is taken in; the pointer of `IZY` is read from work RAM. -/
theorem effectiveAddresses : Obligations.EffectiveAddresses := by
  refine fun s z a => ⟨zext_toNat z, zext_add_toNat z _, zext_add_toNat z _, rfl, add_zext_toNat a _,
    add_zext_toNat a _, ?_, rfl, rfl, rfl, rfl, rfl, rfl, eaIzy_state z s⟩
  rw [eaIzy_eq, add_zext_toNat, wordOf_eq_wordNat, BitVec.toNat_add]
  rfl

/-- The eight instructions of the mode have this operand (R125). -/
theorem operandOf_izx {i : Instr} {z : Byte} (hmode : i.mode = .izx) (hbytes : i.operandBytes = [z]) :
    operandOf i = .izx z := by
  cases i <;> cases hmode <;> cases hbytes <;> rfl

/-- Settles O30: both pointer bytes stand in zero page, so the two reads are of work RAM and change nothing. -/
theorem indexedIndirectWrapsInPageZero : Obligations.IndexedIndirectWrapsInPageZero := by
  intro i z s hmode hbytes
  have hsecond : (zext (z + s.cpu.x + 1)).toNat = (z.toNat + s.cpu.x.toNat + 1) % 256 := by
    rw [zext_add_toNat, BitVec.toNat_add]
    exact Nat.mod_add_mod _ _ _
  rw [operandOf_izx hmode hbytes]
  refine ⟨zext (z + s.cpu.x), zext (z + s.cpu.x + 1), zext_add_toNat z _, hsecond, ?_, ?_, ?_, ?_⟩
  · rw [busRead_zext, busRead_zext, ← wordOf_eq_wordNat, Operand.address, eaIzx_eq]
  · rw [busRead_zext]
  · rw [busRead_zext]
  · rw [Operand.address, eaIzx_eq]

end Sys2Proof.Machine
end

section
/-! The host's operations (00_scope.md R7, R8; 30_encoding.md R112): batches of steps, and the guards as the one
refusal each of them can answer. -/

namespace Sys2Proof.Machine

open Sys2Proof.Claims

/-! Batches. -/

theorem andThen_assoc (r : Result) (f g : State → Result) :
    andThen (andThen r f) g = andThen r fun s => andThen (f s) g := by cases r <;> rfl

theorem andThen_next_right (r : Result) : andThen r .next = r := by cases r <;> rfl

/-- A chain whose first part does not go on is that part. -/
theorem andThen_of_stopped {r : Result} (h : ∀ t, r ≠ .next t) (f : State → Result) : andThen r f = r := by
  cases r with
  | next t => exact absurd rfl (h t)
  | fault e => rfl
  | refused e => rfl

theorem cpuRun_one (s : State) : cpuRun 1 s = step s := andThen_next_right (step s)

theorem cpuRun_add (m n : Nat) (s : State) : cpuRun (m + n) s = andThen (cpuRun m s) (cpuRun n) := by
  induction m generalizing s with
  | zero => rw [Nat.zero_add]; rfl
  | succ m ih => rw [Nat.succ_add, cpuRun, cpuRun, andThen_assoc, funext ih]

/-- INVERSION OF A BATCH: all its steps go on, or it ends with the first one that does not (R112). -/
theorem cpuRun_cases (n : Nat) (s : State) : (∃ t, cpuRun n s = .next t) ∨
    ∃ k u, k < n ∧ cpuRun k s = .next u ∧ cpuRun n s = step u ∧ ∀ t, step u ≠ .next t := by
  induction n generalizing s with
  | zero => exact .inl ⟨s, rfl⟩
  | succ n ih =>
    by_cases hnext : ∃ t, step s = .next t
    · obtain ⟨t, ht⟩ := hnext
      have first (k : Nat) : cpuRun (k + 1) s = cpuRun k t := by rw [cpuRun, ht, andThen_next]
      rw [first]
      rcases ih t with hall | ⟨k, u, hk, hrun, hstop⟩
      · exact .inl hall
      · exact .inr ⟨k + 1, u, by omega, by rw [first, hrun], hstop⟩
    · have hstop : ∀ t, step s ≠ .next t := fun t ht => hnext ⟨t, ht⟩
      exact .inr ⟨0, s, by omega, rfl, andThen_of_stopped hstop _, hstop⟩

/-! The guards. -/

section
variable {α : Type} {s : State}

theorem whenReady_of_halted {c : FatalCause} (h : s.halted = some c) (f : Answer α) :
    whenReady s f = .fault (.afterHalt c) := unlessHalted_of_some h _

theorem whenLoaded_of_halted {c : FatalCause} (h : s.halted = some c) (f : Answer α) :
    whenLoaded s f = .fault (.afterHalt c) := unlessHalted_of_some h _

/-- The answer of a guarded operation on a machine that has not halted. -/
def answerUnless (r : Option Refusal) (f : Answer α) : Answer α := r.elim f .refused

theorem whenSupported_eq (f : Answer α) : whenSupported s f = answerUnless (refusalOf true s) f := by
  simp only [whenSupported, refusalOf, ne_eq, ite_not, Bool.true_eq_false, if_false]
  split_ifs <;> rfl

variable (h : s.halted = none)
include h

/-- The guard of every operation but the loader, the resets and the button masks answers the refusal there is (U15). -/
theorem whenReady_eq (f : Answer α) : whenReady s f = answerUnless (refusalOf (s.phase == .running) s) f := by
  rw [whenReady, unlessHalted_of_none h]
  cases s.phase
  · rfl
  · rfl
  · exact whenSupported_eq f

theorem whenReady_runs (hr : refusalOf (s.phase == .running) s = none) (f : Answer α) : whenReady s f = f := by
  rw [whenReady_eq h, hr]; rfl

theorem whenReady_refuses {r : Refusal} (hr : refusalOf (s.phase == .running) s = some r) (f : Answer α) :
    whenReady s f = .refused r := by
  rw [whenReady_eq h, hr]; rfl

/-- The guard of the two resets answers the refusal there is (R93, R345). -/
theorem whenLoaded_eq (f : Answer α) : whenLoaded s f = answerUnless (refusalOf (s.phase != .noCartridge) s) f := by
  rw [whenLoaded, unlessHalted_of_none h]
  cases s.phase
  · rfl
  · exact whenSupported_eq f
  · exact whenSupported_eq f

theorem whenLoaded_runs (hr : refusalOf (s.phase != .noCartridge) s = none) (f : Answer α) : whenLoaded s f = f := by
  rw [whenLoaded_eq h, hr]; rfl

theorem whenLoaded_refuses {r : Refusal} (hr : refusalOf (s.phase != .noCartridge) s = some r) (f : Answer α) :
    whenLoaded s f = .refused r := by
  rw [whenLoaded_eq h, hr]; rfl

end

/-- After a halt every operation is stuck (R8, R26; log entry 8). -/
theorem perform_of_halted {s : State} {c : FatalCause} (h : s.halted = some c) (op : Operation) :
    perform op s = .fault (.afterHalt c) := by
  cases op with
  | cartLoad | setJoyState => exact unlessHalted_of_some h _
  | cpuReset | ppuReset => exact whenLoaded_of_halted h _
  | cpuRun | advanceScanline | renderRow => exact whenReady_of_halted h _

/-- Settles O60: batches by induction, and each operation by the equation of its guard. -/
theorem hostOperationsRunAndAreGuarded : Obligations.HostOperationsRunAndAreGuarded := by
  refine ⟨fun s => ⟨rfl, cpuRun_one s⟩, cpuRun_add, cpuRun_cases,
    fun s c h => ⟨perform_of_halted h, whenReady_of_halted h _⟩, fun s c => perform_of_halted rfl, fun s h => ?_⟩
  refine ⟨fun _ => unlessHalted_of_none h _, fun m => ⟨unlessHalted_of_none h _, unlessHalted_of_none h _⟩,
    fun hr => ?_, fun r hr => ?_, fun hr => ?_, fun r hr => ?_⟩
  · exact ⟨whenLoaded_runs h hr _, whenLoaded_runs h hr _⟩
  · exact ⟨whenLoaded_refuses h hr _, whenLoaded_refuses h hr _⟩
  · exact ⟨fun _ => whenReady_runs h hr _, whenReady_runs h hr _, whenReady_runs h hr _⟩
  · exact ⟨fun _ => whenReady_refuses h hr _, whenReady_refuses h hr _, fun _ => whenReady_refuses h hr _,
      whenReady_refuses h hr _⟩

end Sys2Proof.Machine
end

section
/-! Operands as the instructions see them (30_encoding.md R113–R123, R130): what the read class hands to an operation is
the operand the claims name, and reading it moves what a bus read moves. -/

namespace Sys2Proof.Machine

open Sys2Proof.Claims

theorem readAt_of_state {e : Word × State} {s : State} (h : e.2 = s) : readAt e = busRead s e.1 := by rw [readAt, h]

/-- The pointer of `IZX` is read without effect, so the operand is one bus read of the state itself (R122). -/
theorem readAt_eaIzx (z : Byte) (s : State) : readAt (eaIzx z s) = (Operand.izx z).read s :=
  readAt_of_state (eaIzx_state z s)

/-- The same for `IZY` (R123). -/
theorem readAt_eaIzy (z : Byte) (s : State) : readAt (eaIzy z s) = (Operand.izy z).read s :=
  readAt_of_state (eaIzy_state z s)

theorem operandRead_onlyPortsMoved (o : Operand) (s : State) : OnlyPortsMoved s (o.read s).2 := by
  cases o
  case none | imm => exact .refl s
  all_goals exact busRead_onlyPortsMoved s _

theorem cpu_eq_of_onlyPortsMoved {s t : State} (h : OnlyPortsMoved s t) : t.cpu = s.cpu := by
  obtain ⟨_, _, _, _, _, _, rfl⟩ := onlyPortsMoved_iff.1 h
  rfl

end Sys2Proof.Machine
end

section
/-! The compares (41_arithmetic_logic.md R165–R167): the three flags as numbers, and each mnemonic as one comparison of
its register with the operand. -/

namespace Sys2Proof.Machine

open Sys2Proof.Claims

/-! The flags of `r − m`. -/

theorem compareByte_toNat (r m : Byte) : (compareByte r m).toNat = (r.toNat + 256 - m.toNat) % 256 := by
  have := m.isLt
  rw [compareByte, BitVec.toNat_sub]
  congr 1
  omega

theorem compareByte_beq_zero (r m : Byte) : (compareByte r m == 0) = decide (r = m) := by
  rw [Bool.beq_eq_decide_eq, compareByte, decide_eq_decide]
  exact sub_eq_zero

theorem bit7_compareByte (r m : Byte) :
    bit (compareByte r m) 7 = decide (128 ≤ (r.toNat + 256 - m.toNat) % 256) := by
  rw [bit7_eq, compareByte_toNat]

/-- What a compare of `r` with `m` writes: C the unsigned comparison (D11), Z equality, N bit 7 of the difference. -/
def compareFlags (r m : Byte) : Flag → Option Bool :=
  also .c (decide (m.toNat ≤ r.toNat)) (also .z (decide (r = m))
    (also .n (decide (128 ≤ (r.toNat + 256 - m.toNat) % 256)) noFlag))

theorem compareWith_flagsAfter (r m : Byte) (s : State) :
    FlagsAfter s.cpu.p (compareWith r m s).cpu.p (compareFlags r m) := by
  intro f
  change (setZN (compareByte r m) (s.setFlag .c (compareCarry r m))).flag f = _
  rw [flag_setZN, compareByte_beq_zero, bit7_compareByte, compareCarry_eq]
  cases f <;> simp [State.flag, State.setFlag, compareFlags, also, noFlag]

theorem compareWith_eq_setP (r m : Byte) (s : State) : compareWith r m s = s.setP (compareWith r m s).cpu.p := rfl

/-- An instruction that compares after its operand's read completes with the registers it had. -/
theorem completes_of_compareWith {i : Instr} {s t : State} {r m : Byte} (hcpu : t.cpu = s.cpu)
    (hexec : exec i s = .next (compareWith r m t)) : Completes i s t s.cpu (compareFlags r m) := by
  rw [Completes, ← hcpu]
  exact ⟨_, compareWith_flagsAfter r m t, by rw [hexec, compareWith_eq_setP]; rfl⟩

/-! Each mnemonic in all its modes; only the two indirect ones read more than the operand. -/

theorem exec_of_mnemonic_cmp {i : Instr} (h : i.mnemonic = .cmp) (s : State) :
    exec i s = compareA ((operandOf i).read s) := by
  cases i <;> cases h
  case cmpIzx z => exact congrArg compareA (readAt_eaIzx z s)
  case cmpIzy z => exact congrArg compareA (readAt_eaIzy z s)
  all_goals rfl

theorem exec_of_mnemonic_cpx {i : Instr} (h : i.mnemonic = .cpx) (s : State) :
    exec i s = compareX ((operandOf i).read s) := by
  cases i <;> cases h <;> rfl

theorem exec_of_mnemonic_cpy {i : Instr} (h : i.mnemonic = .cpy) (s : State) :
    exec i s = compareY ((operandOf i).read s) := by
  cases i <;> cases h <;> rfl

/-- Settles O14: the operand's read leaves the registers alone, and the rest is one comparison. -/
theorem comparesSetCarryZeroNegative : Obligations.ComparesSetCarryZeroNegative := by
  intro i s
  have hframe := operandRead_onlyPortsMoved (operandOf i) s
  have hcpu := cpu_eq_of_onlyPortsMoved hframe
  refine ⟨fun h => ?_, fun h => ?_, fun h => ?_, hframe⟩
  · exact completes_of_compareWith hcpu (by rw [exec_of_mnemonic_cmp h, compareA, hcpu])
  · exact completes_of_compareWith hcpu (by rw [exec_of_mnemonic_cpx h, compareX, hcpu])
  · exact completes_of_compareWith hcpu (by rw [exec_of_mnemonic_cpy h, compareY, hcpu])

end Sys2Proof.Machine
end

section
/-! JMP (43_control_transfer.md R199): the bytes of its operand word as numbers, and the page wrap of the indirect
pointer (30_encoding.md R121). -/

namespace Sys2Proof.Machine

open Sys2Proof.Claims

theorem loByte_eq_ofNat (w : Word) : loByte w = BitVec.ofNat 8 (w.toNat % 256) := by
  rw [← loByte_toNat, BitVec.ofNat_toNat, BitVec.setWidth_eq]

theorem hiByte_eq_ofNat (w : Word) : hiByte w = BitVec.ofNat 8 (w.toNat / 256) := by
  rw [← hiByte_toNat, BitVec.ofNat_toNat, BitVec.setWidth_eq]

/-- The masks of R121 take the high byte of one word and the low byte of the other, bit by bit. -/
theorem and_FF00_or_and_00FF (m w : Word) : (m &&& 0xFF00) ||| (w &&& 0x00FF) = wordOf (loByte w) (hiByte m) := by
  refine BitVec.eq_of_getLsbD_eq fun i hi => ?_
  simp only [wordOf, loByte, hiByte, BitVec.getLsbD_append]
  interval_cases i <;> simp

/-- The second byte of the pointer stands in the page of the first (R121). -/
theorem indHighAddr_toNat (ptr : Word) :
    (indHighAddr ptr).toNat = (ptr.toNat + 1) % 256 + 256 * (ptr.toNat / 256) := by
  rw [indHighAddr, and_FF00_or_and_00FF, wordOf_toNat, loByte_toNat, hiByte_toNat, BitVec.toNat_add]
  congr 1
  exact Nat.mod_mod_of_dvd _ (by decide)

/-- The jump is two bus reads and a write of `PC`. -/
theorem exec_jmpInd (ptr : Word) (s : State) : exec (.jmpInd ptr) s =
    let lo := busRead s ptr
    let hi := busRead lo.2 (indHighAddr ptr)
    .next { hi.2 with cpu := { s.cpu with pc := wordNat lo.1 hi.1 } } := by
  change jumpTo (eaInd ptr s) = _
  simp only [jumpTo, eaInd, State.setPc, readWord, busRead_cpu, wordOf_eq_wordNat]

/-- Settles O20: the second address is the pointer plus 1 taken within the page. -/
theorem jumpIndirectWrapsInThePage : Obligations.JumpIndirectWrapsInThePage := by
  intro s ptr
  have hsecond := indHighAddr_toNat ptr
  refine ⟨rfl, ?_, indHighAddr ptr, fun hlast => by omega, fun hinner => by omega, exec_jmpInd ptr s,
    (busRead_onlyPortsMoved s ptr).trans (busRead_onlyPortsMoved _ _)⟩
  rw [← loByte_eq_ofNat, ← hiByte_eq_ofNat]
  rfl

end Sys2Proof.Machine
end

section
/-! The stack (10_state.md R21; 00_scope.md R14) as the bytes the next pulls give, and the returns that pull them
(43_control_transfer.md R200, R201; 44_stack_flags_system.md R222, R223; 60_exceptions.md R310, R312). -/

namespace Sys2Proof.Machine

open Sys2Proof.Claims

/-! What later pulls give depends on `S` and RAM only, and a push puts one byte in front of it. -/

theorem stackByte_congr {s t : State} (hram : s.ram = t.ram) (hs : s.cpu.s = t.cpu.s) (n : Byte) :
    stackByte s n = stackByte t n := by rw [stackByte, stackByte, hram, hs]

@[simp] theorem push8_s (v : Byte) (s : State) : (push8 v s).cpu.s = s.cpu.s - 1 := rfl

theorem wf_push8 {s : State} (h : Memory.wf s.ram = true) (v : Byte) : Memory.wf (push8 v s).ram = true :=
  Memory.wf_write h _ v

theorem wf_pushWord {s : State} (h : Memory.wf s.ram = true) (w : Word) : Memory.wf (pushWord w s).ram = true :=
  wf_push8 (wf_push8 h _) _

/-- The slots wrap within the page, so no other byte of it is the pushed one (R21). -/
theorem stackByte_push8 {s : State} (h : Memory.wf s.ram = true) (v n : Byte) :
    stackByte (push8 v s) (n + 1) = if n = 0 then v else stackByte s n := by
  have hslot : s.cpu.s - 1 + (n + 1) = s.cpu.s + n := by ring
  have htop : 256 + (s.cpu.s + n).toNat = 256 + s.cpu.s.toNat ↔ n = 0 := by
    rw [Nat.add_left_cancel_iff, BitVec.toNat_inj, add_eq_left]
  simp only [stackByte, push8_eq, hslot, Memory.read_write_wf h, htop]

/-- A pushed word is in front, low byte first. -/
theorem stackByte_pushWord {s : State} (h : Memory.wf s.ram = true) (w : Word) :
    stackByte (pushWord w s) 1 = loByte w ∧ stackByte (pushWord w s) 2 = hiByte w :=
  ⟨stackByte_push8 (wf_push8 h _) (loByte w) 0,
    (stackByte_push8 (wf_push8 h _) (loByte w) 1).trans (stackByte_push8 h (hiByte w) 0)⟩

theorem stackByte_push8_pushWord {s : State} (h : Memory.wf s.ram = true) (v : Byte) (w : Word) :
    stackByte (push8 v (pushWord w s)) 1 = v ∧ stackByte (push8 v (pushWord w s)) 2 = loByte w ∧
      stackByte (push8 v (pushWord w s)) 3 = hiByte w := by
  have hwf := wf_pushWord h w
  obtain ⟨hlo, hhi⟩ := stackByte_pushWord h w
  exact ⟨stackByte_push8 hwf v 0, (stackByte_push8 hwf v 1).trans hlo, (stackByte_push8 hwf v 2).trans hhi⟩

/-! Entering a handler pushes three bytes; the vector's reads leave the stack alone. -/

theorem enterHandler_ram (ret vec : Word) (pushed live : Byte) (s : State) :
    (enterHandler ret vec pushed live s).ram = (push8 pushed (pushWord ret s)).ram := by
  simp [enterHandler, readVector]

theorem enterHandler_s (ret vec : Word) (pushed live : Byte) (s : State) :
    (enterHandler ret vec pushed live s).cpu.s = (push8 pushed (pushWord ret s)).cpu.s := by
  simp [enterHandler, readVector]

/-! The returns in full. -/

theorem pullWord_eq (s : State) :
    pullWord s = (wordOf (stackByte s 1) (stackByte s 2), { s with cpu := { s.cpu with s := s.cpu.s + 2 } }) := by
  simp only [pullWord, pull8_eq, stackByte, add_assoc]
  rfl

theorem exec_rts (s : State) : exec .rts s = .next { s with cpu := { s.cpu with
    pc := wordOf (stackByte s 1) (stackByte s 2) + 1, s := s.cpu.s + 2 } } := by
  change execRts s = _
  rw [execRts, pullWord_eq]
  rfl

theorem exec_rti (s : State) : exec .rti s = .next { s with cpu := { s.cpu with
    pc := wordOf (stackByte s 2) (stackByte s 3), s := s.cpu.s + 3, p := pulledStatus (stackByte s 1) } } := by
  change execRti s = _
  simp only [execRti, returnFromHandler, pullWord_eq, pull8_eq, stackByte, add_assoc, State.setP, State.setPc]
  rfl

section
variable {s u : State} (hwf : Memory.wf s.ram = true)
include hwf

/-- RTS takes a pushed word off the stack and goes one past it. -/
theorem exec_rts_of_pushWord {w : Word} (hram : u.ram = (pushWord w s).ram) (hs : u.cpu.s = (pushWord w s).cpu.s) :
    exec .rts u = .next { u with cpu := { u.cpu with pc := w + 1, s := s.cpu.s } } := by
  obtain ⟨hlo, hhi⟩ := stackByte_pushWord hwf w
  have hrestored : u.cpu.s + 2 = s.cpu.s := by rw [hs, pushWord, push8_s, push8_s]; ring
  rw [exec_rts, stackByte_congr hram hs, stackByte_congr hram hs, hlo, hhi, wordOf_halves, hrestored]

/-- RTI goes back to the address a handler was entered with, and makes its status of the byte pushed there. -/
theorem exec_rti_of_enterHandler {ret vec : Word} {pushed live : Byte}
    (hram : u.ram = (enterHandler ret vec pushed live s).ram)
    (hs : u.cpu.s = (enterHandler ret vec pushed live s).cpu.s) :
    exec .rti u = .next { u with cpu := { u.cpu with pc := ret, s := s.cpu.s, p := pulledStatus pushed } } := by
  rw [enterHandler_ram] at hram
  rw [enterHandler_s] at hs
  obtain ⟨hp, hlo, hhi⟩ := stackByte_push8_pushWord hwf pushed ret
  have hrestored : u.cpu.s + 3 = s.cpu.s := by rw [hs, push8_s, pushWord, push8_s, push8_s]; ring
  rw [exec_rti, stackByte_congr hram hs, stackByte_congr hram hs, stackByte_congr hram hs, hp, hlo, hhi, wordOf_halves,
    hrestored]

end

theorem State.statusLegal_iff {s : State} :
    s.statusLegal = true ↔ flagOf s.cpu.p .u = true ∧ flagOf s.cpu.p .b = false := by
  simp [State.statusLegal]

/-- Of the flags of a legal status, the byte an NMI pushes and RTI pulls differs in I only (D4). -/
theorem flagOf_pulledStatus_statusForNmi {s : State} (h : s.statusLegal = true) (f : Flag) :
    flagOf (pulledStatus (statusForNmi s.cpu.p)) f = (f == .i || s.flag f) := by
  obtain ⟨hu, hb⟩ := State.statusLegal_iff.1 h
  cases f <;> simp [State.flag, hu, hb]

/-- Settles O22: each entry is the pushes the return's pulls take off again. -/
theorem returnsUndoEntries : Obligations.ReturnsUndoEntries := by
  intro s u a hwf hlegal
  refine ⟨fun t hjsr hram hs => ?_, fun t hbrk hram hs => ?_, fun hram hs => ?_⟩
  · obtain rfl := Host.Outcome.next.inj hjsr
    rw [exec_rts_of_pushWord hwf (w := s.cpu.pc - 1) hram hs, BitVec.sub_add_cancel]
  · obtain rfl := Host.Outcome.next.inj hbrk
    obtain ⟨hu, hb⟩ := State.statusLegal_iff.1 hlegal
    rw [exec_rti_of_enterHandler hwf hram hs, pulledStatus_pushedByProgram hu hb]
  · exact ⟨_, flagOf_pulledStatus_statusForNmi hlegal, exec_rti_of_enterHandler hwf hram hs⟩

end Sys2Proof.Machine
end

section
/-! Pushes as the claims name them (10_state.md R21; 00_scope.md R14): each further push puts its byte in the next slot
and keeps the bytes pushed before it, as long as the page has not been filled. -/

namespace Sys2Proof.Claims

open Sys2Proof.Machine

/-- The last of fewer than 257 bytes pushed has a slot of its own, as many below the first as bytes came before it. -/
theorem cellAfterPush_concat (m : Memory) (v : Byte) (k : Nat) :
    ∀ (bytes : List Byte) (sp : Byte), bytes.length < 256 →
    cellAfterPush m sp (bytes ++ [v]) k =
      if k = 0x0100 + (sp - BitVec.ofNat 8 bytes.length).toNat then v else cellAfterPush m sp bytes k
  | [], sp, _ => by simp [cellAfterPush]
  | b :: rest, sp, hlen => by
    rw [List.length_cons] at hlen
    have hnext : sp - BitVec.ofNat 8 (rest.length + 1) = sp - 1 - BitVec.ofNat 8 rest.length := by
      rw [BitVec.ofNat_add]; exact sub_add_eq_sub_sub_swap _ _ _
    have hslot : sp.toNat ≠ (sp - 1 - BitVec.ofNat 8 rest.length).toNat := by
      rw [← hnext, BitVec.toNat_sub, BitVec.toNat_ofNat]
      omega
    rw [List.length_cons, hnext, List.cons_append, cellAfterPush, cellAfterPush,
      cellAfterPush_concat m v k rest (sp - 1) (by omega)]
    split_ifs with hfirst hlast
    · omega
    all_goals rfl

theorem PushedTo.refl (s : State) : PushedTo s s [] s.cpu := ⟨rfl, fun _ => rfl⟩

/-- One more push. -/
theorem PushedTo.push8 {s t : State} {bytes : List Byte} {cpu : Cpu} (h : PushedTo s t bytes cpu)
    (hwf : Memory.wf t.ram = true) (hs : cpu.s = s.cpu.s - BitVec.ofNat 8 bytes.length) (hlen : bytes.length < 256)
    (v : Byte) : PushedTo s (push8 v t) (bytes ++ [v]) { cpu with s := cpu.s - 1 } := by
  obtain ⟨hframe, hcells⟩ := h
  have hcpu : t.cpu = cpu := congrArg State.cpu hframe
  refine ⟨?_, fun k => ?_⟩
  · rw [push8_eq, hcpu, hframe]
  · rw [push8_eq, Memory.read_write_wf hwf, hcells, cellAfterPush_concat _ _ _ _ _ hlen, hcpu, hs]

theorem pushedTo_push8 {s : State} (hwf : Memory.wf s.ram = true) (v : Byte) :
    PushedTo s (push8 v s) [v] { s.cpu with s := s.cpu.s - 1 } :=
  (PushedTo.refl s).push8 hwf (by simp) (by simp) v

/-- The three pushes of an exception: the return address, high byte first, and a status. -/
theorem pushedTo_push8_pushWord {s : State} (hwf : Memory.wf s.ram = true) (v : Byte) (w : Word) :
    PushedTo s (push8 v (pushWord w s)) [hiByte w, loByte w, v] { s.cpu with s := s.cpu.s - 1 - 1 - 1 } :=
  ((pushedTo_push8 hwf (hiByte w)).push8 (wf_push8 hwf _) rfl (by simp) (loByte w)).push8 (wf_pushWord hwf w)
    (sub_sub _ _ _) (by simp) v

/-- What was pushed stands in RAM, so the registers may be written afterwards. -/
theorem PushedTo.setCpu {s t : State} {bytes : List Byte} {cpu : Cpu} (h : PushedTo s t bytes cpu) (cpu' : Cpu) :
    PushedTo s { t with cpu := cpu' } bytes cpu' :=
  ⟨congrArg (fun u : State => { u with cpu := cpu' }) h.1, h.2⟩

/-- Entering a handler through a vector in PRG ROM (R222, R310, R314): the three pushes, the live status, and `PC` from
the vector. -/
theorem pushedTo_enterHandler {s : State} (hwf : Memory.wf s.ram = true) {vec : Word} (hlo : 0x8000 ≤ vec.toNat)
    (hhi : vec.toNat ≤ 0xFFFE) (ret : Word) (pushed live : Byte) :
    PushedTo s (enterHandler ret vec pushed live s) [hiByte ret, loByte ret, pushed]
      { s.cpu with pc := wordNat (busRead s vec).1 (busRead s (vec + 1)).1, s := s.cpu.s - 3, p := live } := by
  have hnext : 0x8000 ≤ (vec + 1).toNat := by rw [BitVec.toNat_add, show (1 : Word).toNat = 1 from rfl]; omega
  rw [enterHandler_eq hlo hhi, wordOf_eq_wordNat, busRead_of_prg (windowOf_high hlo),
    busRead_of_prg (windowOf_high hnext)]
  exact (pushedTo_push8_pushWord hwf pushed ret).setCpu _

end Sys2Proof.Claims
end

section
/-! Stack instructions, BRK and RTI (44_stack_flags_system.md R210–R213, R222, R223; 60_exceptions.md R311, R312): the
flags of the status bytes they push, pull and leave, and one equation for each pull. -/

namespace Sys2Proof.Machine

open Sys2Proof.Claims

/-! Status bytes as flags written. -/

theorem withFlag_flagsAfter (p : Byte) (f : Flag) (on : Bool) : FlagsAfter p (withFlag p f on) (also f on noFlag) := by
  intro g
  rw [flagOf_withFlag, also]
  split_ifs <;> rfl

/-- `SetZN` with the two tests as numbers (R14). -/
theorem setZN_flagsAfter (v : Byte) (s : State) : FlagsAfter s.cpu.p (setZN v s).cpu.p (zn v) := by
  have hzero : (v == 0) = decide (v.toNat = 0) := by
    rw [Bool.beq_eq_decide_eq, decide_eq_decide, ← BitVec.toNat_inj]; rfl
  intro f
  change (setZN v s).flag f = _
  rw [flag_setZN, hzero, bit7_eq]
  cases f <;> rfl

/-- A status pushed by a program has B and U set (D3). -/
theorem pushedByProgram_flagsAfter (p : Byte) :
    FlagsAfter p (pushedByProgram p) (also .b true (also .u true noFlag)) := by
  intro f
  rw [flagOf_pushedByProgram]
  cases f <;> rfl

/-- A pulled status has U set and B clear, whatever byte was pulled and whatever the status was (D3). -/
theorem pulledStatus_flagsAfter (p v : Byte) :
    FlagsAfter p (pulledStatus v) (fun f => some (f == .u || (f != .b && flagOf v f))) := by
  intro f
  rw [flagOf_pulledStatus]
  cases f <;> rfl

/-! The pulls in full. -/

theorem exec_pla (s : State) : exec .pla s =
    .next (setZN (stackByte s 1) { s with cpu := { s.cpu with a := stackByte s 1, s := s.cpu.s + 1 } }) := by
  change loadA (pull8 s) = _
  rw [pull8_eq]
  rfl

theorem exec_plp (s : State) : exec .plp s =
    .next { s with cpu := { s.cpu with s := s.cpu.s + 1, p := pulledStatus (stackByte s 1) } } := by
  change execPlp s = _
  rw [execPlp, pull8_eq]
  rfl

/-! The obligations. -/

/-- Settles O23: each is one push, of A or of the status as a program pushes it. -/
theorem pushesStoreAtTheStackSlot : Obligations.PushesStoreAtTheStackSlot := fun s hwf =>
  ⟨⟨_, rfl, pushedTo_push8 hwf s.cpu.a⟩,
    ⟨_, _, rfl, pushedTo_push8 hwf (pushedByProgram s.cpu.p), pushedByProgram_flagsAfter s.cpu.p⟩⟩

/-- Settles O24: each is one pull, into A or into the status. -/
theorem pullsReadTheStackSlot : Obligations.PullsReadTheStackSlot := fun s =>
  ⟨⟨_, setZN_flagsAfter _ _, exec_pla s⟩, ⟨_, pulledStatus_flagsAfter _ _, exec_plp s⟩⟩

/-- Settles O26: BRK enters its handler through the vector at 0xFFFE, from one past the `PC` it finds. -/
theorem brkEntersItsHandler : Obligations.BrkEntersItsHandler := by
  intro s hwf ret
  have hret : ret = (s.cpu.pc + 1).toNat := by rw [BitVec.toNat_add]; rfl
  refine ⟨_, _, _, rfl, pushedByProgram_flagsAfter s.cpu.p, withFlag_flagsAfter s.cpu.p .i true, ?_⟩
  rw [hret, ← hiByte_eq_ofNat, ← loByte_eq_ofNat]
  exact pushedTo_enterHandler hwf (vec := vecBrk) (by decide) (by decide) _ _ _

/-- Settles O27: RTI's equation, with the pulled word as a number. -/
theorem rtiRestoresStatusAndPc : Obligations.RtiRestoresStatusAndPc := fun s =>
  ⟨_, pulledStatus_flagsAfter _ _, by rw [exec_rti, wordOf_eq_wordNat]⟩

end Sys2Proof.Machine
end

section
/-! The PPU's register port (47_ppu_register_port.md R235, R242, R243): the status byte as a number, the data port's
address, and a data-port write as one equation over the three stores behind the PPU's address space. -/

namespace Sys2Proof.Machine

open Sys2Proof.Claims

/-! Status reads (R235). -/

theorem Ppu.statusTop_toNat (p : Ppu) : p.statusTop.toNat =
    (if p.vblank then 128 else 0) + (if p.spr0 then 64 else 0) + (if p.ovf then 32 else 0) := by
  unfold Ppu.statusTop
  cases p.vblank <;> cases p.spr0 <;> cases p.ovf <;> rfl

/-- The three status bits stand above the five of the latch, so the two are added. -/
theorem readStatus_toNat (s : State) :
    (readStatus s).1.toNat = s.ppu.statusTop.toNat + s.ppu.dataLatch.toNat % 32 := by
  have hlow : (s.ppu.dataLatch &&& 0x1F).toNat = s.ppu.dataLatch.toNat % 32 := by
    rw [BitVec.toNat_and]; exact Nat.and_two_pow_sub_one_eq_mod _ 5
  have htop : s.ppu.statusTop.toNat = 2 ^ 5 * (s.ppu.statusTop.toNat / 32) := by
    rw [Ppu.statusTop_toNat]; split_ifs <;> rfl
  rw [readStatus, BitVec.toNat_or, hlow, htop,
    ← Nat.two_pow_add_eq_or_of_lt (Nat.mod_lt _ (by decide))]

/-- Settles O39: the byte is a sum, and a second read finds vblank clear. -/
theorem statusReadClearsVblankAndToggle : Obligations.StatusReadClearsVblankAndToggle := by
  intro s r
  have hfirst : r.1.toNat = (if s.ppu.vblank then 128 else 0) + (if s.ppu.spr0 then 64 else 0) +
      (if s.ppu.ovf then 32 else 0) + s.ppu.dataLatch.toNat % 32 := by
    rw [← Ppu.statusTop_toNat]; exact readStatus_toNat s
  have hsecond : (readStatus r.2).1.toNat = (if s.ppu.spr0 then 64 else 0) + (if s.ppu.ovf then 32 else 0) +
      s.ppu.dataLatch.toNat % 32 := by
    rw [readStatus_toNat, Ppu.statusTop_toNat]; simp [r, ppuRegRead, readStatus]
  refine ⟨hfirst, rfl, ?_, rfl⟩
  rw [hfirst]
  refine hsecond.trans ?_
  split_ifs <;> omega

/-! The pattern range (R82, R83), and everything a 14-bit address can lead to. -/

theorem vramRead_of_pattern {a : Nat} (h : a < 0x2000) (s : State) : vramRead s a = Memory.read s.cart.chr a := by
  have hmod : a % 0x4000 = a := Nat.mod_eq_of_lt (by omega)
  simp only [vramRead, vramPlace, hmod, if_pos h]

theorem vramWrite_of_pattern {a : Nat} (h : a < 0x2000) (s : State) (v : Byte) :
    vramWrite s a v = s.setChr (if s.cart.chrBanks = 0 then Memory.write s.cart.chr a v else s.cart.chr) := by
  have hmod : a % 0x4000 = a := Nat.mod_eq_of_lt (by omega)
  simp only [vramWrite, vramPlace, hmod, if_pos h, Cartridge.chrIsRam, beq_iff_eq]
  split_ifs <;> rfl

theorem vramRange_cases {a : Nat} (h : a < 0x4000) :
    (a < 0x2000 ∧ inNametables a = false ∧ inPalette a = false) ∨
    (¬ a < 0x2000 ∧ inNametables a = true ∧ inPalette a = false) ∨
    (¬ a < 0x2000 ∧ inNametables a = false ∧ inPalette a = true) := by
  simp only [inNametables, inPalette, Bool.and_eq_true, Bool.and_eq_false_iff, decide_eq_true_eq, decide_eq_false_iff_not]
  omega

/-- A write touches the one store its address leads to (R82–R87). -/
theorem vramWrite_eq {a : Nat} (h : a < 0x4000) (s : State) (v : Byte) : vramWrite s a v = { s with
    ppu := { s.ppu with
      nt := if inNametables a = true then
        Memory.write s.ppu.nt (0x400 * tableOf s.cart.mirroring a + a % 0x400) v else s.ppu.nt
      pal := if inPalette a = true then Memory.write s.ppu.pal (slotOf a) v else s.ppu.pal }
    cart := { s.cart with
      chr := if a < 0x2000 ∧ s.cart.chrBanks = 0 then Memory.write s.cart.chr a v else s.cart.chr } } := by
  rcases vramRange_cases h with ⟨hp, hn, hq⟩ | ⟨hp, hn, hq⟩ | ⟨hp, hn, hq⟩
  · rw [vramWrite_of_pattern hp]; simp [hp, hn, hq, State.setChr]
  · rw [vramWrite_of_inNametables hn]; simp [hp, hn, hq, State.setPpu]
  · rw [vramWrite_of_inPalette hq]; simp [hp, hn, hq, State.setPpu]

/-- R242, R243: the increment wraps at 16 bits (D25). -/
theorem advanceVramAddr_eq (p : Ppu) : advanceVramAddr p =
    { p with vramAddr := BitVec.ofNat 16 (p.vramAddr.toNat + if bit p.ctrl 2 then 32 else 1) } := by
  have hmoved : p.vramAddr + vramStep p = BitVec.ofNat 16 (p.vramAddr.toNat + if bit p.ctrl 2 then 32 else 1) := by
    apply BitVec.eq_of_toNat_eq
    unfold vramStep
    cases bit p.ctrl 2 <;> simp
  rw [advanceVramAddr, hmoved]

/-- A store that is written only under a condition, cell by cell. -/
theorem Memory.read_writeIf {m : Memory} (h : Memory.wf m = true) (c : Prop) [Decidable c] (i : Nat) (v : Byte)
    (k : Nat) : Memory.read (if c then Memory.write m i v else m) k = if k = i ∧ c then v else Memory.read m k := by
  by_cases hc : c
  · simp only [hc, if_true, and_true, Memory.read_write_wf h]
  · simp only [hc, if_false, and_false]

/-- Settles O43: the write is one equation; what reads back at the address is the cell of the store it leads to. -/
theorem dataPortWriteStoresAndMoves : Obligations.DataPortWriteStoresAndMoves := by
  intro s v hnt hpal hchr a t moved
  have ha : a < 0x4000 := Nat.mod_lt _ (by decide)
  have ht : t = (vramWrite s a v).setPpu (advanceVramAddr (vramWrite s a v).ppu) := rfl
  rw [advanceVramAddr_eq, vramWrite_eq ha] at ht
  have hcells (k : Nat) : Memory.read t.cart.chr k =
      if k = a ∧ a < 0x2000 ∧ s.cart.chrBanks = 0 then v else Memory.read s.cart.chr k := by
    rw [ht]; exact Memory.read_writeIf hchr _ a v k
  have hntCells (k : Nat) : Memory.read t.ppu.nt k =
      if k = 0x400 * tableOf s.cart.mirroring a + a % 0x400 ∧ inNametables a = true then v else Memory.read s.ppu.nt k := by
    rw [ht]; exact Memory.read_writeIf hnt _ _ v k
  have hpalCells (k : Nat) : Memory.read t.ppu.pal k =
      if k = slotOf a ∧ inPalette a = true then v else Memory.read s.ppu.pal k := by
    rw [ht]; exact Memory.read_writeIf hpal _ _ v k
  have hmirroring : t.cart.mirroring = s.cart.mirroring := by rw [ht]; rfl
  refine ⟨by rw [ht]; rfl, ?_, hcells, hntCells, hpalCells, fun b hb => vramRead_of_pattern hb s⟩
  rcases vramRange_cases ha with ⟨hp, -, -⟩ | ⟨hp, hn, -⟩ | ⟨hp, -, hq⟩
  · rw [vramRead_of_pattern hp, vramRead_of_pattern hp, hcells]
    by_cases hram : s.cart.chrBanks = 0 <;> simp [hp, hram]
  · rw [vramRead_of_inNametables hn, hmirroring, hntCells]
    simp [hp, hn]
  · rw [vramRead_of_inPalette hq, hpalCells]
    simp [hp, hq]

end Sys2Proof.Machine
end

section
/-! The OAM DMA (47_ppu_register_port.md R246): the frame of the copy loop, and the bytes it leaves in OAM. -/

namespace Sys2Proof.Claims

open Sys2Proof.Machine

theorem OnlyPortsMoved.setOam {s t : State} (h : OnlyPortsMoved s t) (m : Memory) :
    OnlyPortsMoved (s.setOam m) (t.setOam m) := by
  obtain ⟨_, _, _, _, _, _, rfl⟩ := onlyPortsMoved_iff.1 h
  rfl

/-- Of what a read keeps, the parts a copy of a page looks at. -/
theorem OnlyPortsMoved.keeps {s t : State} (h : OnlyPortsMoved s t) :
    t.ram = s.ram ∧ t.cart = s.cart ∧ t.ppu.oam = s.ppu.oam ∧ t.ppu.oamAddr = s.ppu.oamAddr := by
  obtain ⟨_, _, _, _, _, _, rfl⟩ := onlyPortsMoved_iff.1 h
  exact ⟨rfl, rfl, rfl, rfl⟩

end Sys2Proof.Claims

namespace Sys2Proof.Machine

open Sys2Proof.Claims

@[simp] theorem busRead_oam (s : State) (a : Word) : (busRead s a).2.ppu.oam = s.ppu.oam := by
  obtain ⟨-, -, hoam, -⟩ := (busRead_onlyPortsMoved s a).keeps
  exact hoam

/-- OAM aside, the copy moves what its reads move. -/
theorem oamDmaFrom_onlyPortsMoved (page : Byte) : ∀ (n i : Nat) (s : State),
    OnlyPortsMoved (s.setOam (oamDmaFrom page n i s).ppu.oam) (oamDmaFrom page n i s)
  | 0, _, s => OnlyPortsMoved.refl s
  | n + 1, i, s =>
    ((busRead_onlyPortsMoved s (dmaSource page i)).setOam _).trans
      (oamDmaFrom_onlyPortsMoved page n (i + 1) _)

theorem oamDmaFrom_ram_cart_oamAddr (page : Byte) (n i : Nat) (s : State) :
    (oamDmaFrom page n i s).ram = s.ram ∧ (oamDmaFrom page n i s).cart = s.cart ∧
    (oamDmaFrom page n i s).ppu.oamAddr = s.ppu.oamAddr := by
  obtain ⟨hram, hcart, -, haddr⟩ := (oamDmaFrom_onlyPortsMoved page n i s).keeps
  exact ⟨hram, hcart, haddr⟩

/-- After `n` bytes, byte `k < n` of OAM is what the bus read for it when `k` bytes were copied; the rest is as before. -/
theorem oamByte_oamDmaFrom (page : Byte) {s : State} (hwf : Memory.wf s.ppu.oam = true) : ∀ n : Nat,
    Memory.wf (oamDmaFrom page n 0 s).ppu.oam = true ∧
    ∀ k, oamByte (oamDmaFrom page n 0 s) k =
      if k < n then (busRead (oamDmaFrom page k 0 s) (dmaSource page k)).1 else oamByte s k
  | 0 => ⟨hwf, fun _ => rfl⟩
  | n + 1 => by
    obtain ⟨hn, hbytes⟩ := oamByte_oamDmaFrom page hwf n
    simp only [oamDmaFrom_last, Nat.zero_add, oamByte, State.setOam_ppu, busRead_oam]
    refine ⟨Memory.wf_write hn _ _, fun k => ?_⟩
    rw [Memory.read_write_wf hn]
    rcases Nat.lt_trichotomy k n with hk | rfl | hk
    · rw [if_neg (by omega), if_pos (by omega)]; exact (hbytes k).trans (if_pos hk)
    · rw [if_pos rfl, if_pos (by omega)]
    · rw [if_neg (by omega), if_neg (by omega)]; exact (hbytes k).trans (if_neg (by omega))

/-- Outside the two register windows a read gives a byte of RAM or of the cartridge, or 0 (R63, R66, R71). -/
theorem busRead_value_of_memory {a : Word} (h : a.toNat ≤ 0x1FFF ∨ 0x4018 ≤ a.toNat) {s t : State}
    (hram : t.ram = s.ram) (hcart : t.cart = s.cart) : (busRead t a).1 = (busRead s a).1 := by
  by_cases hlow : a.toNat ≤ 0x1FFF
  · rw [busRead_of_ram (windowOf_ramRange hlow), busRead_of_ram (windowOf_ramRange hlow), hram]
  · by_cases hhigh : 0x8000 ≤ a.toNat
    · rw [busRead_of_prg (windowOf_high hhigh), busRead_of_prg (windowOf_high hhigh), hcart]
    · have hw : windowOf a = .undecoded := windowOf_undecodedRange (by omega) (by omega)
      rw [busRead_of_undecoded hw, busRead_of_undecoded hw]

/-- A page that holds no register window: RAM, or above 0x40 (R61). -/
theorem dmaSource_outside_windows {page : Byte} (hpage : page.toNat ≤ 0x1F ∨ 0x41 ≤ page.toNat) {i : Nat}
    (hi : i < 256) : (dmaSource page i).toNat ≤ 0x1FFF ∨ 0x4018 ≤ (dmaSource page i).toNat := by
  have hlt := page.isLt
  rw [dmaSource, BitVec.toNat_ofNat]
  omega

/-- Settles O38: the loop byte by byte, and its frame, which keeps RAM and the cartridge for the sources outside the
register windows. -/
theorem oamDmaCopiesThePage : Obligations.OamDmaCopiesThePage := by
  intro s page hwf
  have hbyte (i : Nat) (hi : i < 256) :
      oamByte (oamDma page s) i = (busRead (oamDmaFrom page i 0 s) (dmaSource page i)).1 := by
    rw [oamDma, (oamByte_oamDmaFrom page hwf 256).2, if_pos hi]
  obtain ⟨-, -, haddr⟩ := oamDmaFrom_ram_cart_oamAddr page 256 0 s
  refine ⟨fun i hi => ⟨?_, hbyte i hi⟩, fun hpage i hi => ?_, fun i hi => ?_, haddr,
    oamDmaFrom_onlyPortsMoved page 256 0 s⟩
  · rw [oamDmaFrom_last, Nat.zero_add]; rfl
  · obtain ⟨hram, hcart, -⟩ := oamDmaFrom_ram_cart_oamAddr page i 0 s
    rw [hbyte i hi]
    exact busRead_value_of_memory (dmaSource_outside_windows hpage hi) hram hcart
  · rw [oamDma, (oamByte_oamDmaFrom page hwf 256).2, if_neg (by omega)]

end Sys2Proof.Machine
end

section
/-! The compositor (49_ppu_compositor.md R261, R262): a palette index has five bits, so a pixel is a palette byte; the
frame buffer after a row is rendered, pixel by pixel. -/

namespace Sys2Proof.Machine

open Sys2Proof.Claims

theorem planeColor_lt (lo hi : Byte) (column : Nat) : planeColor lo hi column < 4 := by
  unfold planeColor
  split <;> split <;> decide

/-- Two bits of colour and two of palette. -/
def Pixel.Bounded (p : Pixel) : Prop := p.color < 4 ∧ p.palette < 4

theorem backgroundPixel_bounded (s : State) (x y : Nat) : (backgroundPixel s x y).Bounded := by
  unfold backgroundPixel
  split
  · exact ⟨planeColor_lt .., Nat.mod_lt _ (by decide)⟩
  · exact ⟨by decide, by decide⟩

theorem spritePixelOf_bounded {s : State} {x y n : Nat} {c : Pixel} (h : spritePixelOf s x y n = some c) :
    c.Bounded := by
  simp only [spritePixelOf, Option.ite_none_right_eq_some, Option.ite_none_left_eq_some, Option.some.injEq] at h
  obtain ⟨-, -, rfl⟩ := h
  exact ⟨planeColor_lt .., Nat.mod_lt _ (by decide)⟩

/-- The front sprite's pixel is the pixel of one of the sprites (R274). -/
theorem exists_of_firstSprite_eq_some {s : State} {x y : Nat} {c : Pixel} : ∀ {ns : List Nat},
    firstSprite s x y ns = some c → ∃ n ∈ ns, spritePixelOf s x y n = some c
  | n :: ns, h => by
    cases hn : spritePixelOf s x y n with
    | some d =>
      simp only [firstSprite, hn] at h
      exact ⟨n, List.mem_cons_self, hn.trans h⟩
    | none =>
      simp only [firstSprite, hn] at h
      obtain ⟨k, hk, hc⟩ := exists_of_firstSprite_eq_some h
      exact ⟨k, List.mem_cons_of_mem n hk, hc⟩

theorem spritePixel_bounded {s : State} {x y : Nat} {c : Pixel} (h : spritePixel s x y = some c) : c.Bounded := by
  obtain ⟨-, h⟩ := Option.ite_none_right_eq_some.1 h
  obtain ⟨n, -, hn⟩ := exists_of_firstSprite_eq_some h
  exact spritePixelOf_bounded hn

/-- R261: the index of a sprite pixel. -/
theorem pixelIndex_of_sprite {s : State} {x y : Nat} {c : Pixel} (h : spritePixel s x y = some c) :
    pixelIndex s x y = 0x10 + c.palette * 4 + c.color := by
  simp only [pixelIndex, h]

/-- R261: the index where no sprite gives a pixel. -/
theorem pixelIndex_of_noSprite {s : State} {x y : Nat} (h : spritePixel s x y = none) :
    pixelIndex s x y = if (backgroundPixel s x y).color = 0 then 0
      else (backgroundPixel s x y).palette * 4 + (backgroundPixel s x y).color := by
  simp only [pixelIndex, h]

theorem pixelIndex_lt (s : State) (x y : Nat) : pixelIndex s x y < 32 := by
  cases h : spritePixel s x y with
  | some c =>
    obtain ⟨hcolor, hpalette⟩ := spritePixel_bounded h
    rw [pixelIndex_of_sprite h]
    omega
  | none =>
    obtain ⟨hcolor, hpalette⟩ := backgroundPixel_bounded s x y
    rw [pixelIndex_of_noSprite h]
    split <;> omega

/-- The backdrop (R262): with both enables clear no layer gives a pixel. -/
theorem pixelIndex_of_disabled {s : State} (hbg : bit s.ppu.mask 3 = false) (hspr : bit s.ppu.mask 4 = false)
    (x y : Nat) : pixelIndex s x y = 0 := by
  have hsprite : spritePixel s x y = none := by simp [spritePixel, hspr]
  have hcolor : (backgroundPixel s x y).color = 0 := by simp [backgroundPixel, hbg]
  rw [pixelIndex_of_noSprite hsprite, if_pos hcolor]

/-- The slot of a palette address is that of its offset: both have the same low five bits. -/
theorem slotOf_paletteBase_add (i : Nat) : slotOf (0x3F00 + i) = slotOf i := by
  have hlow : (0x3F00 + i) % 32 = i % 32 := by omega
  simp only [← paletteSlot_eq_slotOf, paletteSlot, hlow]

/-- A pixel is the palette byte in the slot of its index (D40). -/
theorem pixelByte_eq (s : State) (x y : Nat) : pixelByte s x y = Memory.read s.ppu.pal (slotOf (pixelIndex s x y)) := by
  have hlt := pixelIndex_lt s x y
  have hpal : inPalette (0x3F00 + pixelIndex s x y) = true := by
    simp only [inPalette, Bool.and_eq_true, decide_eq_true_eq]
    omega
  rw [pixelByte, vramRead_of_inPalette hpal, slotOf_paletteBase_add]

theorem renderRow_frame (y : Nat) (s : State) : renderRow y s = { s with fb := (renderRow y s).fb } := by
  rw [renderRow_eq, State.setFb_fb, State.setFb]

/-- R44: cells of the frame buffer and pixels correspond, row after row. -/
theorem framePixel_renderRow {s : State} (hwf : Memory.wf s.fb = true) (y y' : Nat) {x : Nat} (hx : x < 256) :
    framePixel (renderRow y s) x y' = if y' = y then pixelByte s x y else framePixel s x y' := by
  have hcell : framePixel (renderRow y s) x y' =
      if y * 256 + 0 ≤ y' * 256 + x ∧ y' * 256 + x < y * 256 + 0 + 256 then pixelByte s (y' * 256 + x - y * 256) y
      else framePixel s x y' := by
    rw [framePixel, renderRow_eq, State.setFb_fb, (renderFrom_read s y 256 0 s.fb hwf).2, framePixel,
      show frameWidth = 256 from rfl]
  rw [hcell]
  by_cases hy : y' = y
  · rw [if_pos (by omega), if_pos hy, hy, Nat.add_sub_cancel_left]
  · rw [if_neg (by omega), if_neg hy]

theorem perform_renderRow {s : State} (h : s.Ready) {y : Nat} (hy : y ≤ 239) :
    perform (.renderRow y) s = .next (renderRow y s) :=
  (whenReady_of_ready h _).trans (if_pos (Nat.lt_succ_of_le hy))

theorem perform_renderRow_pastTheFrame {s : State} (h : s.Ready) {y : Nat} (hy : 239 < y) :
    perform (.renderRow y) s = .refused (.rowOutOfRange y) :=
  (whenReady_of_ready h _).trans (if_neg (Nat.not_lt_of_le hy))

/-- Settles O48: the frame buffer pixel by pixel, each pixel a palette byte since an index has five bits. -/
theorem renderRowWritesOneRow : Obligations.RenderRowWritesOneRow := by
  intro s y hwf hready
  refine ⟨perform_renderRow_pastTheFrame hready,
    fun hy => ⟨renderRow y s, perform_renderRow hready hy, renderRow_frame y s, fun x y' hx _ => ?_⟩, fun hbg hspr x => ?_⟩
  · rw [framePixel_renderRow hwf y y' hx, pixelByte_eq]
  · rw [pixelIndex_of_disabled hbg hspr]; rfl

end Sys2Proof.Machine
end

section
/-! Where a step stops (60_exceptions.md R300, R308): the fetch stops at an undefined opcode, and after it only the one
bus write of a store or a read-modify-write can stop; a push stays in work RAM. -/

namespace Sys2Proof.Machine

open Sys2Proof.Claims

/-! The instructions that write the bus (R144–R146, R169, R170, R180–R183). -/

/-- The result is that of one bus write of a byte in write mode `m`, with an ending that cannot stop. -/
def IsOneWrite (m : WriteMode) (r : Result) : Prop :=
  ∃ (t : State) (a : Word) (v : Byte) (ending : State → State),
    t.writeMode = m ∧ r = andThen (busWrite t a v) fun u => .next (ending u)

section
variable {e : Word × State} {s : State} (h : e.2 = s)
include h

theorem writeAt_isOneWrite (v : Byte) : IsOneWrite s.writeMode (writeAt e v) :=
  ⟨e.2, e.1, v, id, by rw [h], (andThen_next_right _).symm⟩

theorem stepMem_isOneWrite (f : Byte → Byte) : IsOneWrite s.writeMode (stepMem f e) :=
  ⟨(readAt e).2, e.1, _, setZN _, by rw [readAt, busRead_writeMode, h], rfl⟩

/-- The carry is written before the bus is, and no flag is part of the write mode. -/
theorem shiftMem_isOneWrite (f : Shifter) : IsOneWrite s.writeMode (shiftMem f e) :=
  ⟨(readAt e).2.setFlag .c _, e.1, _, setZN _, (busRead_writeMode e.2 e.1).trans (by rw [h]), rfl⟩

end

/-- INVERSION OF AN INSTRUCTION: it goes on, or it is a store or a read-modify-write, which is one bus write. -/
theorem exec_cases (i : Instr) (s : State) : (∃ t, exec i s = .next t) ∨ IsOneWrite s.writeMode (exec i s) := by
  cases i
  case staZp | staZpx | staAbs | staAbx | staAby | staIzx | staIzy | stxZp | stxZpy | stxAbs | styZp | styZpx |
      styAbs =>
    exact .inr (writeAt_isOneWrite (by simp) _)
  case incZp | incZpx | incAbs | incAbx | decZp | decZpx | decAbs | decAbx =>
    exact .inr (stepMem_isOneWrite (by simp) _)
  case aslZp | aslZpx | aslAbs | aslAbx | lsrZp | lsrZpx | lsrAbs | lsrAbx | rolZp | rolZpx | rolAbs | rolAbx | rorZp |
      rorZpx | rorAbs | rorAbx =>
    exact .inr (shiftMem_isOneWrite (by simp) _)
  all_goals exact .inl ⟨_, rfl⟩

theorem IsOneWrite.goesOn_or_violates {m : WriteMode} {r : Result} (h : IsOneWrite m r) :
    (∃ t, r = .next t) ∨
    (m = .halt ∧ ∃ (a : Word) (v : Byte), 0x4018 ≤ a.toNat ∧ r = .fault (.fatal (.busWriteViolation a v))) := by
  obtain ⟨t, a, v, ending, rfl, rfl⟩ := h
  rcases busWrite_cases t a v with ⟨u, hwrite, -⟩ | ⟨hwrite, hmode, ha⟩
  · exact .inl ⟨ending u, by rw [hwrite, andThen_next]⟩
  · exact .inr ⟨hmode, a, v, ha, by rw [hwrite, andThen_fault]⟩

/-- An instruction goes on, or in mode `halt` it stops at a write to 0x4018–0xFFFF (R62). -/
theorem exec_goesOn_or_violates (i : Instr) (s : State) :
    (∃ t, exec i s = .next t) ∨
    (s.writeMode = .halt ∧
      ∃ (a : Word) (v : Byte), 0x4018 ≤ a.toNat ∧ exec i s = .fault (.fatal (.busWriteViolation a v))) :=
  (exec_cases i s).elim .inl IsOneWrite.goesOn_or_violates

/-! The fetch before it. -/

@[simp] theorem fetch8_writeMode (s : State) : (fetch8 s).2.writeMode = s.writeMode := busRead_writeMode s s.cpu.pc

@[simp] theorem fetchOperands_writeMode (f : Form) (s : State) : (fetchOperands f s).2.writeMode = s.writeMode := by
  rcases fetchOperands_state f s with h | h | h <;> simp [h]

/-- A defined opcode is fetched with its operand bytes and its instruction run, the write mode as it was (R111). -/
theorem step_of_definedOpcode {s : State} (hready : s.Ready) (h : undefinedOpcode (busRead s s.cpu.pc).1 = false) :
    ∃ i t, t.writeMode = s.writeMode ∧ step s = exec i t := by
  obtain ⟨f, hf⟩ := lookupOpcode_of_defined h
  exact ⟨_, _, by simp, step_of_instr hready (fetchInstr_of_lookup_some hf)⟩

/-- Settles O6: an undefined opcode halts, and with a defined one only the instruction's bus write can stop; the guard
answers the other states. -/
theorem stepStopsOnlyWhereTheSpecSays : Obligations.StepStopsOnlyWhereTheSpecSays := by
  intro s
  refine ⟨fun hready => ?_, fun c h => whenReady_of_halted h _, fun h hphase => whenReady_refuses h ?_ _,
    fun h hphase hbanks => whenReady_refuses h ?_ _, fun h hphase hbanks hmapper => whenReady_refuses h ?_ _⟩
  · cases hop : undefinedOpcode (busRead s s.cpu.pc).1 with
    | true => exact .inr (.inl ⟨rfl, step_of_undefinedOpcode hready hop⟩)
    | false =>
      obtain ⟨i, t, hmode, hstep⟩ := step_of_definedOpcode hready hop
      rw [hstep, ← hmode]
      exact (exec_goesOn_or_violates i t).imp_right .inr
  · simp [refusalOf, hphase]
  · simp [refusalOf, hphase, hbanks]
  · rw [refusalOf, hphase, if_neg (by decide), if_neg hbanks, if_neg hmapper]

end Sys2Proof.Machine
end

section
/-! The decoder and the encoder are inverse to each other (30_encoding.md R110, R125): the operand bytes an entry takes
are the ones its instruction is encoded with, and bytes after them are left. -/

namespace Sys2Proof

open Sys2Proof.Machine (loByte_wordOf hiByte_wordOf)

/-- Every pair of mnemonic and mode that an instruction has is in the table (R125). -/
theorem Instr.wellFormed_eq_true (i : Instr) : i.wellFormed = true := by cases i <;> rfl

/-- An entry looks at the bytes it takes only. -/
theorem takeOperands_append {op : Byte} {f : Form} {i : Instr} {bs left : List Byte}
    (h : takeOperands op f bs = .instr i left) (rest : List Byte) :
    takeOperands op f (bs ++ rest) = .instr i (left ++ rest) := by
  rcases f with j | make | make <;> rcases bs with - | ⟨lo, - | ⟨hi, bs⟩⟩ <;>
    simp_all [takeOperands]

theorem decode_encode_append (i : Instr) (rest : List Byte) : decode (encode i ++ rest) = .instr i rest := by
  obtain ⟨f, hf, htake⟩ := lookupOpcode_opcode i
  simp only [encode, List.cons_append, decode, hf, takeOperands_append htake rest, List.nil_append]

theorem Form.operandCount_le_two (f : Form) : f.operandCount ≤ 2 := by cases f <;> simp [Form.operandCount]

/-- Up to two bytes at the front of a list, one after another. -/
theorem take_getD_pair {bs : List Byte} {n : Nat} (h2 : n ≤ 2) (hlen : n ≤ bs.length) :
    [bs.getD 0 0, bs.getD 1 0].take n = bs.take n := by
  rcases bs with - | ⟨lo, - | ⟨hi, bs⟩⟩ <;> interval_cases n <;> simp_all

/-- What decodes is the encoding of the answer, followed by the bytes left over. -/
theorem eq_encode_append_of_decode {bs rest : List Byte} {i : Instr} (h : decode bs = .instr i rest) :
    bs = encode i ++ rest := by
  rcases bs with - | ⟨op, bs⟩
  · contradiction
  cases hf : lookupOpcode op with
  | none => rw [decode_of_lookup_none hf] at h; contradiction
  | some f =>
    rw [decode_of_lookup_some hf] at h
    split at h
    · contradiction
    · next henough =>
      obtain ⟨rfl, rfl⟩ := Decoded.instr.inj h
      rw [opTable_encode _ (mem_of_lookupIn hf), loByte_wordOf, hiByte_wordOf,
        take_getD_pair f.operandCount_le_two (Nat.not_lt.1 henough), List.cons_append, List.take_append_drop]

/-- Settles O1: an entry takes the operand bytes its instruction is encoded with, and leaves the rest. -/
theorem decodeEncodeAgree : Obligations.DecodeEncodeAgree := fun _ i rest =>
  ⟨fun h => ⟨i.wellFormed_eq_true, eq_encode_append_of_decode h⟩, fun ⟨_, h⟩ => h ▸ decode_encode_append i rest⟩

/-- Settles O3: each list of bytes is the encoding of its instruction, and the decoder undoes the encoder. -/
theorem wordsDecodeAsTheMatrixSays : Obligations.WordsDecodeAsTheMatrixSays :=
  ⟨decode_encode_append (.ldaImm 0x42) [], decode_encode_append (.staAbs 0x0200) [],
    decode_encode_append (.ldxZpy 0xF0) [], decode_encode_append (.adcIzy 0x80) [],
    decode_encode_append (.cmpIzx 0x24) [], decode_encode_append (.rolAbx 0x0200) [],
    decode_encode_append .lsrAcc [], decode_encode_append (.bne 0xFE) [],
    decode_encode_append (.jmpInd 0x02FF) [], decode_encode_append .brk [0x4C], decode_encode_append .rti []⟩

end Sys2Proof
end

section
/-! Fetching from work RAM and PRG ROM (30_encoding.md R111; 20_memory.md R88): such a read has no side effect, so
nothing but `PC` moves. -/

namespace Sys2Proof.Machine

open Sys2Proof.Claims

/-- A byte of RAM or PRG ROM is read without effect (R63, R66). -/
theorem busRead_of_memoryByte {s : State} {a : Word} {v : Byte} (h : memoryByte s a = some v) :
    busRead s a = (v, s) := by
  unfold memoryByte at h
  split_ifs at h with hram hprg
  · rw [busRead_of_ram (windowOf_ramRange hram)]; exact congrArg (·, s) (Option.some.inj h)
  · rw [busRead_of_prg (windowOf_high hprg)]; exact congrArg (·, s) (Option.some.inj h)

/-- Bytes that stand in memory from `PC` on are the bytes fetched, and fetching them moves `PC` only. -/
theorem fetchBytes_of_memory : ∀ (bs : List Byte) (s : State),
    (∀ k, k < bs.length → memoryByte s (s.cpu.pc + BitVec.ofNat 16 k) = bs[k]?) →
    fetchBytes bs.length s = (bs, s.setPc (s.cpu.pc + BitVec.ofNat 16 bs.length))
  | [], s, _ => by simp [fetchBytes, State.setPc]
  | b :: bs, s, h => by
    have hfirst : busRead s s.cpu.pc = (b, s) := busRead_of_memoryByte (by simpa using h 0 (by simp))
    have hpc (k : Nat) : s.cpu.pc + BitVec.ofNat 16 (k + 1) = s.cpu.pc + 1 + BitVec.ofNat 16 k := by
      rw [Nat.add_comm k 1, BitVec.ofNat_add, BitVec.add_assoc]; rfl
    have hrest := fetchBytes_of_memory bs (s.setPc (s.cpu.pc + 1)) fun k hk => by
      have hbyte := h (k + 1) (by simpa using hk)
      rwa [hpc] at hbyte
    rw [List.length_cons, fetchBytes_succ, fetch8, hfirst, hrest, hpc]
    rfl

/-- Settles O5: the fetched bytes are those in memory, and the fetch moves `PC` only. -/
theorem stepFromMemory : Obligations.StepFromMemory := by
  intro s i hready _ hmem
  rw [InMemoryAtPc, ← encode_length] at hmem
  have hfetch := fetchBytes_of_memory (encode i) s hmem
  rw [encode_length] at hfetch
  exact step_of_instr hready (fetchInstr_of_fetchBytes hfetch)

end Sys2Proof.Machine
end

section
/-! The read class (30_encoding.md R130): each of its mnemonics is one operation on the operand's byte, whatever the
mode; what the loads, the logic and the bit test leave (40_load_store_transfer.md R141–R143, R147–R152;
41_arithmetic_logic.md R162–R164, R168, R171–R174). -/

namespace Sys2Proof.Machine

open Sys2Proof.Claims

/-- The operation of a mnemonic of the read class, on the operand byte and the state after it was read. -/
def readOp : Mnemonic → Option (Byte × State → Result)
  | .lda => some loadA
  | .ldx => some loadX
  | .ldy => some loadY
  | .adc => some addA
  | .sbc => some subA
  | .and => some andA
  | .ora => some orA
  | .eor => some eorA
  | .cmp => some compareA
  | .cpx => some compareX
  | .cpy => some compareY
  | .bit => some bitTest
  | _ => none

/-- In the indirect modes the pointer is read too, without effect. -/
theorem eq_of_izx {r : Result} {op : Byte × State → Result} {o : Operand} {z : Byte} {s : State} (ho : o = .izx z)
    (h : r = op (readAt (eaIzx z s))) : r = op (o.read s) := by rw [h, ho, readAt_eaIzx]

theorem eq_of_izy {r : Result} {op : Byte × State → Result} {o : Operand} {z : Byte} {s : State} (ho : o = .izy z)
    (h : r = op (readAt (eaIzy z s))) : r = op (o.read s) := by rw [h, ho, readAt_eaIzy]

/-- The mode chooses the operand and nothing else. -/
theorem exec_of_readOp {i : Instr} {op : Byte × State → Result} (h : readOp i.mnemonic = some op) (s : State) :
    exec i s = op ((operandOf i).read s) := by
  cases i <;> cases h
  case ldaIzx | adcIzx | sbcIzx | andIzx | oraIzx | eorIzx | cmpIzx => exact eq_of_izx rfl rfl
  case ldaIzy | adcIzy | sbcIzy | andIzy | oraIzy | eorIzy | cmpIzy => exact eq_of_izy rfl rfl
  all_goals rfl

theorem operandRead_cpu (o : Operand) (s : State) : (o.read s).2.cpu = s.cpu :=
  cpu_eq_of_onlyPortsMoved (operandRead_onlyPortsMoved o s)

/-! Loads and transfers: a register takes a byte, Z and N are its. -/

section
variable {i : Instr} {s : State} {o : Byte × State} (hcpu : o.2.cpu = s.cpu)
include hcpu

theorem completes_of_loadA (hexec : exec i s = loadA o) : Completes i s o.2 { s.cpu with a := o.1 } (zn o.1) := by
  rw [Completes, ← hcpu]
  exact ⟨_, setZN_flagsAfter o.1 (o.2.setA o.1), hexec⟩

theorem completes_of_loadX (hexec : exec i s = loadX o) : Completes i s o.2 { s.cpu with x := o.1 } (zn o.1) := by
  rw [Completes, ← hcpu]
  exact ⟨_, setZN_flagsAfter o.1 (o.2.setX o.1), hexec⟩

theorem completes_of_loadY (hexec : exec i s = loadY o) : Completes i s o.2 { s.cpu with y := o.1 } (zn o.1) := by
  rw [Completes, ← hcpu]
  exact ⟨_, setZN_flagsAfter o.1 (o.2.setY o.1), hexec⟩

end

/-- Settles O7: each is the load of its register from the operand. -/
theorem loadsTakeTheOperandByte : Obligations.LoadsTakeTheOperandByte := by
  intro i s
  have hcpu := operandRead_cpu (operandOf i) s
  exact ⟨fun h => completes_of_loadA hcpu (exec_of_readOp (congrArg readOp h) s),
    fun h => completes_of_loadX hcpu (exec_of_readOp (congrArg readOp h) s),
    fun h => completes_of_loadY hcpu (exec_of_readOp (congrArg readOp h) s),
    operandRead_onlyPortsMoved (operandOf i) s⟩

/-- Settles O8: five of them are loads of a register's byte, and TXS writes S alone. -/
theorem transfersCopyARegister : Obligations.TransfersCopyARegister := fun s =>
  ⟨completes_of_loadX (o := (s.cpu.a, s)) rfl rfl, completes_of_loadY (o := (s.cpu.a, s)) rfl rfl,
    completes_of_loadA (o := (s.cpu.x, s)) rfl rfl, completes_of_loadA (o := (s.cpu.y, s)) rfl rfl,
    completes_of_loadX (o := (s.cpu.s, s)) rfl rfl, rfl⟩

theorem incByte_eq_ofNat (v : Byte) : incByte v = BitVec.ofNat 8 (v.toNat + 1) := by
  apply BitVec.eq_of_toNat_eq
  rw [incByte, BitVec.toNat_add, BitVec.toNat_ofNat]
  rfl

theorem decByte_eq_ofNat (v : Byte) : decByte v = BitVec.ofNat 8 (v.toNat + 255) := by
  apply BitVec.eq_of_toNat_eq
  rw [decByte, BitVec.toNat_sub, BitVec.toNat_ofNat, Nat.add_comm]
  rfl

/-- Settles O16: each loads its register with the next or the previous byte. -/
theorem indexRegistersStep : Obligations.IndexRegistersStep := by
  intro s up down
  simp only [up, down, ← incByte_eq_ofNat, ← decByte_eq_ofNat]
  exact ⟨completes_of_loadX (o := (incByte s.cpu.x, s)) rfl rfl, completes_of_loadY (o := (incByte s.cpu.y, s)) rfl rfl,
    completes_of_loadX (o := (decByte s.cpu.x, s)) rfl rfl, completes_of_loadY (o := (decByte s.cpu.y, s)) rfl rfl⟩

/-! Logic. -/

/-- The byte the three logic mnemonics make of A and the operand (R162–R164). -/
def logicByte (m : Mnemonic) (a v : Byte) : Byte :=
  if m = .and then a &&& v else if m = .ora then a ||| v else a ^^^ v

theorem bit_and (u v : Byte) (k : Nat) : bit (u &&& v) k = (bit u k && bit v k) := BitVec.getLsbD_and
theorem bit_or (u v : Byte) (k : Nat) : bit (u ||| v) k = (bit u k || bit v k) := BitVec.getLsbD_or
theorem bit_xor (u v : Byte) (k : Nat) : bit (u ^^^ v) k = (bit u k != bit v k) := BitVec.getLsbD_xor

/-- Settles O13: each is a load of A with the byte the operation gives, which it gives bit by bit. -/
theorem logicWorksBitByBit : Obligations.LogicWorksBitByBit := by
  intro i s o
  have hcpu : o.2.cpu = s.cpu := operandRead_cpu (operandOf i) s
  have hload (v : Byte) (hexec : exec i s = loadA (v, o.2)) : Completes i s o.2 { s.cpu with a := v } (zn v) :=
    completes_of_loadA (o := (v, o.2)) hcpu hexec
  refine ⟨logicByte i.mnemonic s.cpu.a o.1, fun h => ?_, fun h => ?_, fun h => ?_,
    operandRead_onlyPortsMoved (operandOf i) s⟩ <;> rw [h]
  · exact ⟨bit_and _ _, hload _ (by rw [exec_of_readOp (congrArg readOp h), andA, hcpu]; rfl)⟩
  · exact ⟨bit_or _ _, hload _ (by rw [exec_of_readOp (congrArg readOp h), orA, hcpu]; rfl)⟩
  · exact ⟨bit_xor _ _, hload _ (by rw [exec_of_readOp (congrArg readOp h), eorA, hcpu]; rfl)⟩

/-! The bit test. -/

theorem beq_zero_eq_decide (v : Byte) : (v == 0) = decide (v.toNat = 0) := by
  rw [Bool.beq_eq_decide_eq, decide_eq_decide, ← BitVec.toNat_inj]
  rfl

theorem bit6_eq (v : Byte) : bit v 6 = decide (64 ≤ v.toNat % 128) := by
  rw [bit, BitVec.getLsbD, Nat.testBit_eq_decide_div_mod_eq, decide_eq_decide]
  omega

/-- What `BIT` writes: Z of A and the operand together, N and V the operand's top bits (R168). -/
theorem bitTest_flagsAfter (o : Byte × State) :
    FlagsAfter o.2.cpu.p
      (withFlag (withFlag (withFlag o.2.cpu.p .z (o.2.cpu.a &&& o.1 == 0)) .n (bit o.1 7)) .v (bit o.1 6))
      (also .z (decide ((o.2.cpu.a &&& o.1).toNat = 0))
        (also .n (decide (128 ≤ o.1.toNat)) (also .v (decide (64 ≤ o.1.toNat % 128)) noFlag))) := by
  intro f
  rw [beq_zero_eq_decide, bit7_eq, bit6_eq]
  cases f <;> simp [also, noFlag]

/-- Settles O15: the operand's read leaves A alone, and the rest is three flags. -/
theorem bitTestsTheOperand : Obligations.BitTestsTheOperand := by
  intro i s h o
  have hcpu : o.2.cpu = s.cpu := operandRead_cpu (operandOf i) s
  refine ⟨?_, operandRead_onlyPortsMoved (operandOf i) s⟩
  rw [Completes, ← hcpu]
  exact ⟨_, bitTest_flagsAfter o, exec_of_readOp (congrArg readOp h) s⟩

end Sys2Proof.Machine
end

section
/-! Addition with carry (41_arithmetic_logic.md R160, R161, R175): its flags, and the subtraction as the addition of the
complemented byte, in numbers. -/

namespace Sys2Proof.Machine

open Sys2Proof.Claims

/-! What an addition leaves. -/

theorem addWithCarry_flagsAfter (m : Byte) (s : State) :
    FlagsAfter s.cpu.p (addWithCarry m s).cpu.p (also .c (adcCarry s.cpu.a m (s.flag .c))
      (also .v (adcOverflow s.cpu.a m (s.flag .c)) (zn (adcByte s.cpu.a m (s.flag .c))))) := by
  intro f
  rw [addWithCarry, setZN_flagsAfter]
  cases f <;> simp [also, zn, noFlag]

theorem addWithCarry_a (m : Byte) (s : State) : (addWithCarry m s).cpu.a = adcByte s.cpu.a m (s.flag .c) := rfl

theorem addWithCarry_flag_c (m : Byte) (s : State) : (addWithCarry m s).flag .c = adcCarry s.cpu.a m (s.flag .c) :=
  addWithCarry_flagsAfter m s .c

theorem addWithCarry_flag_v (m : Byte) (s : State) :
    (addWithCarry m s).flag .v = adcOverflow s.cpu.a m (s.flag .c) :=
  addWithCarry_flagsAfter m s .v

theorem completes_of_addWithCarry {i : Instr} {s t : State} {m : Byte} (hcpu : t.cpu = s.cpu)
    (hexec : exec i s = .next (addWithCarry m t)) :
    Completes i s t { s.cpu with a := adcByte s.cpu.a m (s.flag .c) } (also .c (adcCarry s.cpu.a m (s.flag .c))
      (also .v (adcOverflow s.cpu.a m (s.flag .c)) (zn (adcByte s.cpu.a m (s.flag .c))))) := by
  rw [Completes, State.flag, ← hcpu]
  exact ⟨_, addWithCarry_flagsAfter m t, hexec⟩

/-! The sum in numbers. -/

theorem carry_eq_carryIn (s : State) : carry s = carryIn (s.flag .c) := rfl

theorem carry_le_one (s : State) : carry s ≤ 1 := by unfold carry; split <;> decide

theorem adcByte_flag (a m : Byte) (s : State) :
    adcByte a m (s.flag .c) = BitVec.ofNat 8 (a.toNat + m.toNat + carry s) := rfl

/-- V in R160's words: the operands have one sign and the result the other. -/
theorem adcOverflow_eq_signs (a m : Byte) (c : Bool) : adcOverflow a m c =
    ((bit a 7 == bit m 7) && (bit (adcByte a m c) 7 != bit a 7)) := by
  rw [adcOverflow, bit7_and, bit7_xor, bit7_xor]
  generalize bit (adcByte a m c) 7 = r
  generalize bit a 7 = x
  generalize bit m 7 = y
  revert r x y
  decide

/-- Settles O10: one addition of the operand. -/
theorem adcAddsWithCarry : Obligations.AdcAddsWithCarry := by
  intro i s h o sum r v
  refine ⟨?_, operandRead_onlyPortsMoved (operandOf i) s⟩
  have hdone := completes_of_addWithCarry (operandRead_cpu (operandOf i) s) (exec_of_readOp (congrArg readOp h) s)
  rw [adcCarry_eq, adcOverflow_eq_signs] at hdone
  exact hdone

/-! The difference in numbers. -/

theorem complement_toNat (m : Byte) : (m ^^^ 0xFF).toNat = 255 - m.toNat := by
  rw [show m ^^^ 0xFF = ~~~m from BitVec.xor_allOnes, BitVec.toNat_not]

theorem complement_toInt (m : Byte) : (m ^^^ 0xFF).toInt = -1 - m.toInt := by
  have := m.isLt
  rw [byte_toInt, byte_toInt, complement_toNat]
  split_ifs <;> omega

theorem adcByte_complement (a m : Byte) (s : State) : adcByte a (m ^^^ 0xFF) (s.flag .c) =
    BitVec.ofInt 8 ((a.toNat : Int) - m.toNat - (1 - carry s)) := by
  have := m.isLt
  rw [adcByte_flag, complement_toNat, ← BitVec.ofInt_natCast]
  apply BitVec.eq_of_toNat_eq
  rw [BitVec.toNat_ofInt, BitVec.toNat_ofInt]
  omega

/-- The sum with the complement carries exactly when the subtraction needs no borrow. -/
theorem adcCarry_complement (a m : Byte) (s : State) :
    adcCarry a (m ^^^ 0xFF) (s.flag .c) = decide (m.toNat + (1 - carry s) ≤ a.toNat) := by
  have := m.isLt
  have := carry_le_one s
  rw [adcCarry_eq, complement_toNat, ← carry_eq_carryIn, decide_eq_decide]
  omega

/-- Settles O11: one addition of the complemented operand. -/
theorem sbcSubtractsWithBorrow : Obligations.SbcSubtractsWithBorrow := by
  intro i s h o r m v
  refine ⟨?_, operandRead_onlyPortsMoved (operandOf i) s⟩
  have hdone := completes_of_addWithCarry (m := o.1 ^^^ 0xFF) (operandRead_cpu (operandOf i) s)
    (exec_of_readOp (congrArg readOp h) s)
  rw [adcCarry_complement, adcOverflow_eq_signs, adcByte_complement] at hdone
  exact hdone

/-- Adding a byte and then its complement with a carry is adding 256 (R175). -/
theorem adcByte_complement_adcByte (a v : Byte) : adcByte (adcByte a v false) (v ^^^ 0xFF) true = a := by
  have := v.isLt
  have := a.isLt
  apply BitVec.eq_of_toNat_eq
  rw [adcByte_toNat, adcByte_toNat, complement_toNat]
  simp only [carryIn, Bool.false_eq_true, if_true, if_false]
  omega

/-- CLC, ADC, SEC and SBC of one byte give A back: the two flag instructions fix the carries (R175). -/
theorem a_after_clc_adc_sec_sbc (s : State) (v : Byte) :
    (addWithCarry (v ^^^ 0xFF) ((addWithCarry v (s.setFlag .c false)).setFlag .c true)).cpu.a = s.cpu.a := by
  have hset (t : State) (on : Bool) : (t.setFlag .c on).flag .c = on := by simp [State.flag]
  rw [addWithCarry_a, hset]
  change adcByte (addWithCarry v (s.setFlag .c false)).cpu.a _ _ = _
  rw [addWithCarry_a, hset]
  exact adcByte_complement_adcByte s.cpu.a v

/-- Settles O12: V and C are the out-of-range indicators of the sum, and of the difference as a sum. -/
theorem arithmeticLaws : Obligations.ArithmeticLaws := by
  intro s v
  have := carry_le_one s
  refine ⟨⟨addWithCarry v s, rfl, ?_, ?_⟩, ⟨addWithCarry (v ^^^ 0xFF) s, rfl, ?_, ?_⟩, _, rfl,
    a_after_clc_adc_sec_sbc s v⟩
  · rw [addWithCarry_flag_v, adcOverflow_eq, decide_eq_true_iff]; rfl
  · rw [addWithCarry_flag_c, adcCarry_eq, decide_eq_true_iff]; rfl
  · rw [addWithCarry_flag_v, adcOverflow_eq, decide_eq_true_iff, complement_toInt, ← carry_eq_carryIn]
    omega
  · rw [addWithCarry_flag_c, adcCarry_complement, decide_eq_true_iff]
    omega

end Sys2Proof.Machine
end

section
/-! Shifts, stores and read-modify-writes (42_shift_rotate.md R180–R183; 40_load_store_transfer.md R144–R146;
41_arithmetic_logic.md R169, R170; 30_encoding.md R130): the byte and the carry of a shift as numbers, and the four ways
an instruction with one bus write ends. -/

namespace Sys2Proof.Machine

open Sys2Proof.Claims

/-! Shifts. -/

/-- The operation of a shift mnemonic. -/
def shifterOf : Mnemonic → Option Shifter
  | .asl => some shiftLeft
  | .lsr => some shiftRight
  | .rol => some rotateLeft
  | .ror => some rotateRight
  | _ => none

theorem bit0_eq (v : Byte) : bit v 0 = decide (v.toNat % 2 = 1) := by
  rw [bit, BitVec.getLsbD, Nat.testBit_zero]

theorem shiftLeft_eq (v : Byte) (c : Bool) :
    shiftLeft v c = (BitVec.ofNat 8 (v.toNat * 2), decide (128 ≤ v.toNat)) := by
  rw [shiftLeft, shiftLeft_eq_shiftedLeft, shiftedLeft, bit7_eq]

theorem shiftRight_one_eq (v : Byte) : v >>> 1 = BitVec.ofNat 8 (v.toNat / 2) := by
  apply BitVec.eq_of_toNat_eq
  rw [BitVec.toNat_ushiftRight, Nat.shiftRight_eq_div_pow, BitVec.toNat_ofNat]
  omega

theorem shiftRight_eq (v : Byte) (c : Bool) :
    shiftRight v c = (BitVec.ofNat 8 (v.toNat / 2), decide (v.toNat % 2 = 1)) := by
  rw [shiftRight, shiftRight_one_eq, bit0_eq]

/-- The bit rotated in stands where the shift left a 0, so it is added. -/
theorem rotateLeft_eq (v : Byte) (c : Bool) :
    rotateLeft v c = (BitVec.ofNat 8 (v.toNat * 2 + carryIn c), decide (128 ≤ v.toNat)) := by
  have hfree : v <<< 1 &&& (if c then 0x01 else 0x00) = 0 := by
    cases c <;> refine BitVec.eq_of_getLsbD_eq fun i hi => ?_ <;> interval_cases i <;> simp
  rw [rotateLeft, ← BitVec.add_eq_or_of_and_eq_zero _ _ hfree, shiftLeft_eq_shiftedLeft, shiftedLeft, bit7_eq,
    BitVec.ofNat_add]
  cases c <;> rfl

theorem rotateRight_eq (v : Byte) (c : Bool) :
    rotateRight v c = (BitVec.ofNat 8 (v.toNat / 2 + 128 * carryIn c), decide (v.toNat % 2 = 1)) := by
  have hfree : v >>> 1 &&& (if c then 0x80 else 0x00) = 0 := by
    cases c <;> refine BitVec.eq_of_getLsbD_eq fun i hi => ?_ <;> interval_cases i <;> simp
  rw [rotateRight, ← BitVec.add_eq_or_of_and_eq_zero _ _ hfree, shiftRight_one_eq, bit0_eq, BitVec.ofNat_add]
  cases c <;> rfl

/-- The shifts' outcomes as numbers are those of their operations. -/
theorem shiftOutcome_eq (m : Mnemonic) (v : Byte) (c : Bool) :
    shiftOutcome m v (carryIn c) = (shifterOf m).map fun f => f v c := by
  cases m
  case asl => exact congrArg some (shiftLeft_eq v c).symm
  case lsr => exact congrArg some (shiftRight_eq v c).symm
  case rol => exact congrArg some (rotateLeft_eq v c).symm
  case ror => exact congrArg some (rotateRight_eq v c).symm
  all_goals rfl

/-- A shift writes C, then Z and N. -/
theorem shift_flagsAfter (v : Byte) (c : Bool) (s : State) :
    FlagsAfter s.cpu.p (setZN v (s.setFlag .c c)).cpu.p (also .c c (zn v)) := by
  intro f
  rw [setZN_flagsAfter]
  cases f <;> simp [also, zn, noFlag]

theorem exec_of_shifterOf_imp {i : Instr} {f : Shifter} (h : shifterOf i.mnemonic = some f) (hmode : i.mode = .imp)
    (s : State) : exec i s = shiftA f s := by
  cases i <;> cases hmode <;> cases h <;> rfl

/-- Settles O18: the operation of the mnemonic on A and the carry. -/
theorem accumulatorShifts : Obligations.AccumulatorShifts := by
  intro i s r c hmode hout
  rw [carry_eq_carryIn, shiftOutcome_eq, Option.map_eq_some_iff] at hout
  obtain ⟨f, hf, hrc⟩ := hout
  have hexec := exec_of_shifterOf_imp hf hmode s
  rw [shiftA, hrc] at hexec
  exact ⟨_, shift_flagsAfter r c s, hexec⟩

/-! One bus write, and what is done after it. -/

theorem ppuRegWrite_ram (s : State) (r : Port) (v : Byte) : (ppuRegWrite s r v).ram = s.ram := by
  cases r
  case vramData => simp only [ppuRegWrite, vramWrite_eq (Nat.mod_lt _ (by decide)), State.setPpu_ram]
  case scroll | vramAddress => simp only [ppuRegWrite]; split <;> rfl
  all_goals rfl

theorem apuWrite_ram (s : State) (o : ApuPort) (v : Byte) : (apuWrite s o v).ram = s.ram := by
  cases o
  case dma =>
    obtain ⟨hram, -⟩ := oamDmaFrom_ram_cart_oamAddr v 256 0 s
    exact hram
  all_goals rfl

/-- What a bus write keeps is, with RAM kept too, the frame of a write to a device window. -/
theorem WriteKeeps.onlyDevicesMoved {s t : State} (h : WriteKeeps s t) (hram : t.ram = s.ram) :
    OnlyDevicesMoved s t := by
  rw [OnlyDevicesMoved, ← h.cpu, ← h.fb, ← h.halted, ← h.phase, ← h.writeMode, ← h.cart, ← h.scanline, ← h.spr0,
    ← h.ovf, ← h.joyState.1, ← h.joyState.2, ← hram]

/-- A write to a device window completes and leaves RAM alone (R62). -/
theorem busWrite_of_device {a : Word} (hlo : 0x2000 ≤ a.toNat) (hhi : a.toNat ≤ 0x4017) (s : State) (v : Byte) :
    ∃ t, busWrite s a v = .next t ∧ OnlyDevicesMoved s t := by
  obtain ⟨t, ht, hkeeps⟩ := busWrite_completes (s := s) v hhi
  refine ⟨t, ht, hkeeps.onlyDevicesMoved ?_⟩
  by_cases hppu : a.toNat ≤ 0x3FFF
  · rw [busWrite_of_ppu (windowOf_ppuRange hlo hppu)] at ht
    obtain rfl := Host.Outcome.next.inj ht
    exact ppuRegWrite_ram s _ v
  · rw [busWrite_of_apu (windowOf_apuRange (by omega) hhi)] at ht
    obtain rfl := Host.Outcome.next.inj ht
    exact apuWrite_ram s _ v

theorem storedInRam_setRam {s : State} (hwf : Memory.wf s.ram = true) (a : Word) (v : Byte) :
    StoredInRam s a v (s.setRam (Memory.write s.ram (ramIndex a) v)) :=
  ⟨rfl, Memory.read_write_wf hwf (ramIndex a) v⟩

/-- An instruction that is one bus write and then `finish` ends in one of the four ways of a store. -/
theorem storeEnds_of_busWrite {s : State} (hwf : Memory.wf s.ram = true) {a : Word} {v : Byte} {finish : State → State}
    {r : Result} (h : r = andThen (busWrite s a v) fun t => .next (finish t)) : StoreEnds s a v finish r := by
  subst h
  refine ⟨fun hram => ?_, fun hlo hhi => ?_, fun hviolates hmode => ?_, fun hviolates hmode => ?_⟩
  · exact ⟨_, storedInRam_setRam hwf a v, by rw [busWrite_of_ram (windowOf_ramRange hram)]; rfl⟩
  · obtain ⟨t, ht, hframe⟩ := busWrite_of_device hlo hhi s v
    exact ⟨t, ht, hframe, by rw [ht]; rfl⟩
  · rw [busWrite_violates hviolates, writeViolation_eq, if_pos hmode]; rfl
  · rw [busWrite_violates hviolates, writeViolation_eq, if_neg (by rw [hmode]; decide)]; rfl

/-! Stores. -/

/-- The register a store mnemonic stores. -/
def storedRegister : Mnemonic → Option (Cpu → Byte)
  | .sta => some Cpu.a
  | .stx => some Cpu.x
  | .sty => some Cpu.y
  | _ => none

theorem storeA_of_state {e : Word × State} {s : State} (h : e.2 = s) : storeA e = busWrite s e.1 s.cpu.a := by
  rw [storeA, writeAt, h]

/-- Only the two indirect modes read before the write, without effect. -/
theorem exec_of_storedRegister {i : Instr} {reg : Cpu → Byte} (h : storedRegister i.mnemonic = some reg) (s : State) :
    exec i s = busWrite s ((operandOf i).address s) (reg s.cpu) := by
  cases i <;> cases h
  case staIzx z => exact storeA_of_state (eaIzx_state z s)
  case staIzy z => exact storeA_of_state (eaIzy_state z s)
  all_goals rfl

/-- Settles O9: each is one bus write of its register. -/
theorem storesWriteOneByte : Obligations.StoresWriteOneByte := by
  intro i s hwf addr
  have hstore (reg : Cpu → Byte) (h : storedRegister i.mnemonic = some reg) :
      StoreEnds s addr (reg s.cpu) id (exec i s) :=
    storeEnds_of_busWrite hwf (by rw [exec_of_storedRegister h]; exact (andThen_next_right _).symm)
  exact ⟨fun h => hstore Cpu.a (congrArg storedRegister h), fun h => hstore Cpu.x (congrArg storedRegister h),
    fun h => hstore Cpu.y (congrArg storedRegister h)⟩

/-! Read-modify-writes. -/

/-- The operation of a read-modify-write mnemonic at an effective address. -/
def modifyOp : Mnemonic → Option (Word × State → Result)
  | .inc => some (stepMem incByte)
  | .dec => some (stepMem decByte)
  | .asl => some (shiftMem shiftLeft)
  | .lsr => some (shiftMem shiftRight)
  | .rol => some (shiftMem rotateLeft)
  | .ror => some (shiftMem rotateRight)
  | _ => none

/-- None of their modes reads a pointer. -/
theorem exec_of_modifyOp {i : Instr} {op : Word × State → Result} (h : modifyOp i.mnemonic = some op)
    (hmode : i.mode ≠ .imp) (s : State) : exec i s = op ((operandOf i).address s, s) := by
  cases i <;> cases h
  case aslAcc | lsrAcc | rolAcc | rorAcc => exact absurd rfl hmode
  all_goals rfl

theorem modifyOp_of_shifterOf {m : Mnemonic} {f : Shifter} (h : shifterOf m = some f) :
    modifyOp m = some (shiftMem f) := by
  cases m <;> cases h <;> rfl

/-- The status is no part of what a bus write looks at. -/
theorem busWrite_setP (s : State) (a : Word) (v q : Byte) :
    busWrite (s.setP q) a v = mapNext (fun t => t.setP q) (busWrite s a v) := by
  rcases busWrite_cases s a v with ⟨t, ht, hkeeps⟩ | ⟨hfault, hmode, ha⟩
  · rw [State.setP, busWrite_withCpu ht, ht, ← hkeeps.cpu]; rfl
  · rw [hfault, busWrite_violates ha, writeViolation_eq, if_pos (by exact hmode)]; rfl

/-- So it may be written before the write or after it. -/
theorem busWrite_setP_setZN (s : State) (a : Word) (v q b : Byte) :
    (andThen (busWrite (s.setP q) a v) fun t => .next (setZN b t)) =
      andThen (busWrite s a v) fun t => .next { t with cpu := { t.cpu with p := (setZN b (s.setP q)).cpu.p } } := by
  rw [busWrite_setP]
  cases busWrite s a v <;> rfl

/-- The outcome's byte is what is written after the one read, and its flags are those of the status left. -/
theorem exec_of_modifyOutcome {i : Instr} {s : State} {r : Byte} {w : Flag → Option Bool} (hmode : i.mode ≠ .imp)
    {o : Byte × State} (ho : busRead s ((operandOf i).address s) = o)
    (h : modifyOutcome i.mnemonic o.1 (carry s) = some (r, w)) :
    ∃ q, FlagsAfter s.cpu.p (setZN r (o.2.setP q)).cpu.p w ∧
      exec i s = andThen (busWrite (o.2.setP q) ((operandOf i).address s) r) fun t => .next (setZN r t) := by
  have hcpu : o.2.cpu = s.cpu := by rw [← ho]; exact busRead_cpu ..
  unfold modifyOutcome at h
  split_ifs at h with hinc hdec
  · obtain ⟨rfl, rfl⟩ := Prod.mk.inj (Option.some.inj h)
    rw [exec_of_modifyOp (congrArg modifyOp hinc) hmode, ← hcpu, ← incByte_eq_ofNat, stepMem, readAt, ho]
    exact ⟨o.2.cpu.p, setZN_flagsAfter _ o.2, rfl⟩
  · obtain ⟨rfl, rfl⟩ := Prod.mk.inj (Option.some.inj h)
    rw [exec_of_modifyOp (congrArg modifyOp hdec) hmode, ← hcpu, ← decByte_eq_ofNat, stepMem, readAt, ho]
    exact ⟨o.2.cpu.p, setZN_flagsAfter _ o.2, rfl⟩
  · rw [carry_eq_carryIn, shiftOutcome_eq, Option.map_map, Option.map_eq_some_iff] at h
    obtain ⟨f, hf, hrw⟩ := h
    obtain ⟨rfl, rfl⟩ := Prod.mk.inj hrw
    rw [exec_of_modifyOp (modifyOp_of_shifterOf hf) hmode, State.flag, ← hcpu, shiftMem, readAt, ho]
    exact ⟨_, shift_flagsAfter _ _ o.2, rfl⟩

/-- Settles O17: one read, and one write of the outcome's byte with the status written after it. -/
theorem readModifyWriteStoresTheResult : Obligations.ReadModifyWriteStoresTheResult := by
  intro i s r w hwf hmode addr o hout
  obtain ⟨q, hflags, hexec⟩ := exec_of_modifyOutcome hmode rfl hout
  have hwf' : Memory.wf o.2.ram = true := by rw [busRead_ram]; exact hwf
  rw [busWrite_setP_setZN] at hexec
  exact ⟨_, hflags, busRead_onlyPortsMoved s addr, storeEnds_of_busWrite hwf' hexec⟩

end Sys2Proof.Machine
end

section
/-! Branches, the call and the return, the flag instructions and NMI entry (43_control_transfer.md R190–R201;
44_stack_flags_system.md R214–R221; 60_exceptions.md R310). -/

namespace Sys2Proof.Machine

open Sys2Proof.Claims

/-- R124: the offset is added as a signed number, modulo 65536. -/
theorem branchTarget_eq (off : Byte) (s : State) :
    branchTarget off s = BitVec.ofInt 16 ((s.cpu.pc.toNat : Int) + off.toInt) := by
  rw [BitVec.ofInt_add, BitVec.ofInt_natCast, BitVec.ofNat_toNat, BitVec.setWidth_eq]
  rfl

theorem branchIf_eq (cond : Bool) (off : Byte) (s : State) : branchIf cond off s =
    .next { s with cpu := { s.cpu with
      pc := if cond then BitVec.ofInt 16 ((s.cpu.pc.toNat : Int) + off.toInt) else s.cpu.pc } } := by
  rw [branchIf, branchTarget_eq]
  cases cond <;> rfl

/-- Settles O19: each is one conditional branch. -/
theorem branchesTestTheirFlag : Obligations.BranchesTestTheirFlag := fun s off =>
  ⟨branchIf_eq _ off s, branchIf_eq _ off s, branchIf_eq _ off s, branchIf_eq _ off s, branchIf_eq _ off s,
    branchIf_eq _ off s, branchIf_eq _ off s, branchIf_eq _ off s⟩

/-- Settles O25: each writes its flag into the status. -/
theorem flagInstructionsWriteOneFlag : Obligations.FlagInstructionsWriteOneFlag := fun s =>
  have hwrites (f : Flag) (on : Bool) : FlagsAfter s.cpu.p (withFlag s.cpu.p f on) (also f on noFlag) :=
    withFlag_flagsAfter s.cpu.p f on
  ⟨⟨_, hwrites .c false, rfl⟩, ⟨_, hwrites .c true, rfl⟩, ⟨_, hwrites .i false, rfl⟩, ⟨_, hwrites .i true, rfl⟩,
    ⟨_, hwrites .d false, rfl⟩, ⟨_, hwrites .d true, rfl⟩, ⟨_, hwrites .v false, rfl⟩, rfl⟩

/-- The two pushes of a call. -/
theorem pushedTo_pushWord {s : State} (hwf : Memory.wf s.ram = true) (w : Word) :
    PushedTo s (pushWord w s) [hiByte w, loByte w] { s.cpu with s := s.cpu.s - 1 - 1 } :=
  (pushedTo_push8 hwf (hiByte w)).push8 (wf_push8 hwf _) rfl (by simp) (loByte w)

/-- Settles O21: the call pushes a word and sets `PC`; the return is RTS's equation. -/
theorem callPushesAndReturnPulls : Obligations.CallPushesAndReturnPulls := by
  intro s a hwf ret
  have hret : ret = (s.cpu.pc - 1).toNat := by rw [BitVec.toNat_sub, Nat.add_comm]; rfl
  have hs : s.cpu.s - 2 = s.cpu.s - 1 - 1 := by rw [sub_sub]; rfl
  refine ⟨⟨_, rfl, ?_⟩, ?_⟩
  · rw [hret, ← hiByte_eq_ofNat, ← loByte_eq_ofNat, hs]
    exact (pushedTo_pushWord hwf (s.cpu.pc - 1)).setCpu _
  · rw [exec_rts, wordOf_eq_wordNat, BitVec.ofNat_add, BitVec.ofNat_toNat, BitVec.setWidth_eq]
    rfl

/-- The status an NMI saves: B clear, U and I set, the rest as it was (D4). -/
theorem statusForNmi_flagsAfter (p : Byte) :
    FlagsAfter p (statusForNmi p) (also .b false (also .u true (also .i true noFlag))) := by
  intro f
  rw [flagOf_statusForNmi]
  cases f <;> rfl

/-- Settles O28: an NMI enters its handler through the vector at 0xFFFA, from the next instruction. -/
theorem nmiEntrySavesAndRedirects : Obligations.NmiEntrySavesAndRedirects := by
  intro s hwf
  refine ⟨_, statusForNmi_flagsAfter s.cpu.p, ?_⟩
  rw [← hiByte_eq_ofNat, ← loByte_eq_ofNat]
  exact pushedTo_enterHandler hwf (vec := vecNmi) (by decide) (by decide) _ _ _

end Sys2Proof.Machine
end

section
/-! Side effects of reads (20_memory.md R67, R68, R70, R76): which addresses have one, and the joypad protocol. -/

namespace Sys2Proof.Machine

open Sys2Proof.Claims

theorem ppuRegRead_noEffect {r : Port} (hstatus : r ≠ .status) (hdata : r ≠ .vramData) (s : State) :
    (ppuRegRead s r).2 = s := by
  cases r
  case status => exact absurd rfl hstatus
  case vramData => exact absurd rfl hdata
  all_goals rfl

/-- The eight ports one by one. -/
theorem portOf_ne_of_mod {n : Nat} (h2 : n % 8 ≠ 2) (h7 : n % 8 ≠ 7) : portOf n ≠ .status ∧ portOf n ≠ .vramData := by
  have hports : ∀ k < 8, k ≠ 2 → k ≠ 7 → portOf k ≠ .status ∧ portOf k ≠ .vramData := by decide
  rw [← portOf_mod]
  exact hports (n % 8) (Nat.mod_lt n (by decide)) h2 h7

/-- The list of R76, as numbers. -/
theorem readHasEffect_eq_false {a : Word} (h : readHasEffect a = false) :
    (0x2000 ≤ a.toNat → a.toNat ≤ 0x3FFF → a.toNat % 8 ≠ 2 ∧ a.toNat % 8 ≠ 7) ∧ a ≠ 0x4016 ∧ a ≠ 0x4017 := by
  simp only [readHasEffect, Bool.or_eq_false_iff, Bool.and_eq_false_iff, decide_eq_false_iff_not] at h
  obtain ⟨⟨hport, h16⟩, h17⟩ := h
  refine ⟨fun _ _ => by omega, ?_, ?_⟩
  · rintro rfl; exact h16 rfl
  · rintro rfl; exact h17 rfl

/-- Settles O36: the ranges one by one; in the two register windows the ports without effect are left. -/
theorem readsMoveOnlyTheListedPorts : Obligations.ReadsMoveOnlyTheListedPorts := by
  refine fun s a => ⟨fun h => ?_, busRead_onlyPortsMoved s a⟩
  obtain ⟨hport, h16, h17⟩ := readHasEffect_eq_false h
  by_cases hppu : 0x2000 ≤ a.toNat ∧ a.toNat ≤ 0x3FFF
  · obtain ⟨h2, h7⟩ := hport hppu.1 hppu.2
    obtain ⟨hstatus, hdata⟩ := portOf_ne_of_mod h2 h7
    rw [busRead_of_ppu (windowOf_ppuRange hppu.1 hppu.2)]
    exact ppuRegRead_noEffect hstatus hdata s
  by_cases hapu : 0x4000 ≤ a.toNat ∧ a.toNat ≤ 0x4017
  · rw [busRead_of_apu (windowOf_apuRange hapu.1 hapu.2)]
    rcases apuPortOf_cases hapu.1 hapu.2 with ⟨-, hp⟩ | ⟨ha, -⟩ | ⟨ha, -⟩ | hp
    · rw [hp]; rfl
    · exact absurd ha h16
    · exact absurd ha h17
    · rw [hp]; rfl
  by_cases hram : a.toNat ≤ 0x1FFF
  · rw [busRead_of_ram (windowOf_ramRange hram)]
  by_cases hprg : 0x8000 ≤ a.toNat
  · rw [busRead_of_prg (windowOf_high hprg)]
  · rw [busRead_of_undecoded (windowOf_undecodedRange (by omega) (by omega))]

/-! Joypads. -/

/-- What the `k`-th read after a reload with `mask` gives, `k` from 0: the mask's bits, top bit first, then 0. -/
def joypadReply (mask : Byte) (k : Nat) : Byte := if k < 8 ∧ bit mask (7 - k) = true then 1 else 0

theorem joypadReply_zero (mask : Byte) : joypadReply mask 0 = joyBit mask := by simp [joypadReply, joyBit]

/-- A read drops the top bit, so the next replies are those of the shifted mask (R68). -/
theorem joypadReply_succ (mask : Byte) (k : Nat) : joypadReply mask (k + 1) = joypadReply (mask <<< 1) k := by
  have hbit : (k < 8 ∧ bit (mask <<< 1) (7 - k) = true) ↔ (k + 1 < 8 ∧ bit mask (7 - (k + 1)) = true) := by
    simp only [bit, BitVec.getLsbD_shiftLeft, Bool.and_eq_true, decide_eq_true_eq, Bool.not_eq_true',
      decide_eq_false_iff_not]
    rw [show 7 - k - 1 = 7 - (k + 1) by omega]
    exact ⟨fun ⟨_, ⟨_, _⟩, h⟩ => ⟨by omega, h⟩, fun ⟨_, h⟩ => ⟨by omega, ⟨by omega, by omega⟩, h⟩⟩
  simp only [joypadReply, hbit]

/-- Reads of an address whose read shifts a register out by its top bit give the register's bits. -/
theorem readsOf_shiftRegister {a : Word} {reg : State → Byte}
    (hread : ∀ s, (busRead s a).1 = joyBit (reg s) ∧ reg (busRead s a).2 = reg s <<< 1) : ∀ (n : Nat) (s : State),
    (readsOf a n s).1 = (List.range n).map (joypadReply (reg s))
  | 0, _ => rfl
  | n + 1, s => by
    obtain ⟨hbyte, hshift⟩ := hread s
    have ih := readsOf_shiftRegister hread n (busRead s a).2
    rw [hshift] at ih
    rw [List.range_succ_eq_map, List.map_cons, List.map_map, joypadReply_zero, ← hbyte]
    refine congrArg _ (ih.trans (List.map_congr_left fun k _ => ?_))
    exact (joypadReply_succ (reg s) k).symm

/-- Settles O37: the write reloads both shift registers, and each read shifts its own. -/
theorem joypadReadsGiveTheMaskTopBitFirst : Obligations.JoypadReadsGiveTheMaskTopBitFirst := fun s _ n =>
  ⟨joyReload s, rfl, readsOf_shiftRegister (reg := fun t => t.joy.shift0) (fun _ => ⟨rfl, rfl⟩) n (joyReload s),
    readsOf_shiftRegister (reg := fun t => t.joy.shift1) (fun _ => ⟨rfl, rfl⟩) n (joyReload s)⟩

end Sys2Proof.Machine
end

section
/-! The simple ports, the two-write pairs and the data port's reads (47_ppu_register_port.md R231–R244). -/

namespace Sys2Proof.Machine

open Sys2Proof.Claims

/-- Settles O40: the ports' definitions, with OAM read after the one write. -/
theorem simplePortsStoreAndRead : Obligations.SimplePortsStoreAndRead := by
  intro s v hwf
  refine ⟨rfl, rfl, rfl, rfl, ?_, rfl, ?_, Memory.read_write_wf hwf _ v⟩
  · rintro r (rfl | rfl | rfl | rfl | rfl) <;> rfl
  · rw [← incByte_eq_ofNat]; rfl

/-! The pairs: one toggle and one buffer for both ports (R240). -/

section
variable {s : State}

theorem ppuRegWrite_first {r : Port} (h : r = .scroll ∨ r = .vramAddress) (hw : s.ppu.w = false) (v : Byte) :
    ppuRegWrite s r v = { s with ppu := { s.ppu with wBuf := v, w := true } } := by
  rcases h with rfl | rfl <;> simp only [ppuRegWrite, hw, Bool.false_eq_true, if_false] <;> rfl

variable (hw : s.ppu.w = true)
include hw

theorem ppuRegWrite_second_scroll (v : Byte) : ppuRegWrite s .scroll v =
    { s with ppu := { s.ppu with scroll := wordNat v s.ppu.wBuf, w := false } } := by
  simp only [ppuRegWrite, hw, if_true, wordOf_eq_wordNat]; rfl

theorem ppuRegWrite_second_vramAddress (v : Byte) : ppuRegWrite s .vramAddress v =
    { s with ppu := { s.ppu with vramAddr := wordNat v s.ppu.wBuf, w := false } } := by
  simp only [ppuRegWrite, hw, if_true, wordOf_eq_wordNat]; rfl

end

/-- Settles O41: a first write is buffered, a status read clears the toggle, and a second write takes the buffer. -/
theorem writePairsShareOneToggle : Obligations.WritePairsShareOneToggle := by
  intro s first b1 b2 b3 hfirst hw t u
  have ht : t = { s with ppu := { s.ppu with wBuf := b1, w := true } } := ppuRegWrite_first hfirst hw b1
  have hu : u = { s with ppu := { s.ppu with vblank := false, wBuf := b2, w := true } } := by
    refine (ppuRegWrite_first hfirst rfl b2).trans ?_
    rw [ht]; rfl
  rw [ht, hu]
  refine ⟨rfl, ?_, ?_, ?_, ?_⟩
  · rw [ppuRegWrite_second_scroll rfl, ← hw]
  · rw [ppuRegWrite_second_vramAddress rfl, ← hw]
  · rw [ppuRegWrite_second_scroll rfl, ← hw]
  · rw [ppuRegWrite_second_vramAddress rfl, ← hw]

/-- Settles O42: the latch or the byte by the address, and the address moved. -/
theorem dataPortReadIsBuffered : Obligations.DataPortReadIsBuffered := by
  intro s a moved
  have hvalue : (if 0x3F00 ≤ a then vramRead s a else s.ppu.dataLatch) =
      if a < 0x3F00 then s.ppu.dataLatch else vramRead s a := by
    simp only [← Nat.not_lt, ite_not]
  rw [← hvalue]
  change readVramData s = _
  rw [readVramData, advanceVramAddr_eq]
  rfl

end Sys2Proof.Machine
end

section
/-! The scanline state machine (48_ppu_scanline_fsm.md R251–R257): one equation per phase of an advance, and the frame
as its phases one after another. -/

namespace Sys2Proof.Machine

open Sys2Proof.Claims

theorem nextScanline_eq (n : Int) : nextScanline n = if n = 260 then -1 else n + 1 := by
  unfold nextScanline
  by_cases h : n = 260
  · rw [if_pos (by omega), if_pos h]
  · rw [if_neg (by omega), if_neg h]

@[simp] theorem State.setPpu_setPpu (s : State) (p q : Ppu) : (s.setPpu p).setPpu q = s.setPpu q := rfl

theorem cpuNmi_setPpu (s : State) (p : Ppu) : cpuNmi (s.setPpu p) = (cpuNmi s).setPpu p := cpuNmi_withPpu s p

theorem moveScanline_eq (s : State) : moveScanline s = s.setPpu { s.ppu with
    scanline := if s.ppu.scanline = 260 then -1 else s.ppu.scanline + 1 } := by
  rw [moveScanline, nextScanline_eq]

/-- R253: rendering is enabled by either enable bit. -/
theorem renderingEnabled_eq (p : Ppu) : renderingEnabled p = (bit p.mask 3 || bit p.mask 4) := by
  rw [renderingEnabled, bit, bit]
  generalize p.mask = m
  revert m
  decide

/-- Sprite-0 hit is kept or set (R253). -/
theorem sprite0Heuristic_eq (s : State) : sprite0Heuristic s = s.setPpu { s.ppu with
    spr0 := s.ppu.spr0 || ((bit s.ppu.mask 3 || bit s.ppu.mask 4) &&
      decide (s.ppu.scanline = ((oamByte s 0).toNat : Int))) } := by
  rw [sprite0Heuristic, renderingEnabled_eq, oamByte]
  split_ifs with h
  · rw [h.1, decide_eq_true h.2, Bool.and_true, Bool.or_true]
  · have hnever : ((bit s.ppu.mask 3 || bit s.ppu.mask 4) &&
        decide (s.ppu.scanline = ((Memory.read s.ppu.oam 0).toNat : Int))) = false := by
      rw [← Bool.not_eq_true, Bool.and_eq_true, decide_eq_true_iff]; exact h
    rw [hnever, Bool.or_false]; rfl

/-! One equation per phase. -/

section
variable {s : State}

theorem advanceScanline_preRender (h : s.ppu.scanline = -1) :
    advanceScanline s = (false, moveScanline (preRenderAction s)) := if_pos h

theorem advanceScanline_visible (hlo : 0 ≤ s.ppu.scanline) (hhi : s.ppu.scanline ≤ 240) :
    advanceScanline s = (false, moveScanline (sprite0Heuristic s)) := by
  rw [advanceScanline, if_neg (by omega), if_pos ⟨hlo, hhi⟩]

theorem advanceScanline_vblank (h : s.ppu.scanline = 241) :
    advanceScanline s = ((vblankEntry s).1, moveScanline (vblankEntry s).2) := by
  rw [advanceScanline, if_neg (by omega), if_neg (by omega), if_pos h]

theorem advanceScanline_idle (hlo : 242 ≤ s.ppu.scanline) : advanceScanline s = (false, moveScanline s) := by
  rw [advanceScanline, if_neg (by omega), if_neg (by omega), if_neg (by omega)]

theorem vblankEntry_nmi (h : bit s.ppu.ctrl 7 = true) :
    vblankEntry s = (true, (cpuNmi s).setPpu { s.ppu with vblank := true }) := by
  rw [← cpuNmi_setPpu]; exact if_pos h

theorem vblankEntry_noNmi (h : bit s.ppu.ctrl 7 = false) :
    vblankEntry s = (false, s.setPpu { s.ppu with vblank := true }) :=
  if_neg (by exact (Bool.not_eq_true _).mpr h)

end

/-- Settles O46: each phase's action leaves the counter to be moved. -/
theorem advanceActsThenCounts : Obligations.AdvanceActsThenCounts := by
  intro s n done
  refine ⟨fun h => ?_, fun hlo hhi => ?_, fun h => ⟨fun hnmi => ?_, fun hnmi => ?_⟩, fun hlo _ => ?_⟩
  · exact (advanceScanline_preRender h).trans (by rw [moveScanline_eq]; rfl)
  · exact (advanceScanline_visible hlo hhi).trans (by rw [sprite0Heuristic_eq, moveScanline_eq]; rfl)
  · exact (advanceScanline_vblank h).trans (by rw [vblankEntry_nmi hnmi, cpuNmi_withPpu, moveScanline_eq]; rfl)
  · exact (advanceScanline_vblank h).trans (by rw [vblankEntry_noNmi hnmi, moveScanline_eq]; rfl)
  · exact (advanceScanline_idle hlo).trans (by rw [moveScanline_eq]; rfl)

/-! Advances one after another. -/

theorem advances_add (m n : Nat) (s : State) : advances (m + n) s =
    ((advances m s).1 ++ (advances n (advances m s).2).1, (advances n (advances m s).2).2) := by
  induction m generalizing s with
  | zero => rw [Nat.zero_add]; rfl
  | succ m ih => rw [Nat.succ_add, advances, advances, ih]; rfl

theorem advances_trans {m n : Nat} {s t u : State} {l l' : List Bool} (h : advances m s = (l, t))
    (h' : advances n t = (l', u)) : advances (m + n) s = (l ++ l', u) := by rw [advances_add, h, h']

theorem advances_one (s : State) : advances 1 s = ([(advanceScanline s).1], (advanceScanline s).2) := rfl

section
variable (s : State) {p : Ppu}

theorem advances_preRender (h : p.scanline = -1) : advances 1 (s.setPpu p) =
    ([false], s.setPpu { p with vblank := false, spr0 := false, ovf := false, scanline := 0 }) := by
  rw [advances_one, advanceScanline_preRender h, moveScanline_eq]
  simp [preRenderAction, h]

/-- The lines 0 to 240 answer false, and the hit is set once OAM byte 0 has been passed. -/
theorem advances_visible (h : p.scanline = 0) : ∀ k : Nat, k ≤ 241 → advances k (s.setPpu p) =
    (List.replicate k false, s.setPpu { p with
      spr0 := p.spr0 || ((bit p.mask 3 || bit p.mask 4) && decide ((Memory.read p.oam 0).toNat < k)), scanline := k })
  | 0, _ => by simp [advances, ← h]
  | k + 1, hk => by
    have hlast : ¬(k : Int) = 260 := by omega
    have hhit : decide ((Memory.read p.oam 0).toNat < k + 1) =
        (decide ((Memory.read p.oam 0).toNat < k) || decide ((k : Int) = ((Memory.read p.oam 0).toNat : Int))) := by
      rw [← Bool.decide_or, decide_eq_decide]; omega
    rw [advances_add, advances_visible h k (by omega), advances_one,
      advanceScanline_visible (Int.natCast_nonneg k) (by simp only [State.setPpu_ppu]; omega), sprite0Heuristic_eq,
      moveScanline_eq, List.replicate_succ', hhit, Bool.and_or_distrib_left, ← Bool.or_assoc]
    simp [oamByte, hlast]

/-- Line 241 sets vblank, and with `ctrl[7]` it answers true after an NMI entry. -/
theorem advances_vblank (h : p.scanline = 241) {ctrl : Byte} (hctrl : p.ctrl = ctrl) : advances 1 (s.setPpu p) =
    ([bit ctrl 7], (if bit ctrl 7 then cpuNmi s else s).setPpu { p with vblank := true, scanline := 242 }) := by
  subst hctrl
  rw [advances_one, advanceScanline_vblank h]
  cases hnmi : bit p.ctrl 7
  · rw [vblankEntry_noNmi (s := s.setPpu p) hnmi, moveScanline_eq]; simp [h]
  · rw [vblankEntry_nmi (s := s.setPpu p) hnmi, cpuNmi_setPpu, moveScanline_eq]; simp [h]

/-- The lines 242 to 259 answer false and do nothing. -/
theorem advances_idle (h : p.scanline = 242) : ∀ k : Nat, k ≤ 18 → advances k (s.setPpu p) =
    (List.replicate k false, s.setPpu { p with scanline := 242 + k })
  | 0, _ => by simp [advances, ← h]
  | k + 1, hk => by
    have hlast : ¬(242 + (k : Int)) = 260 := by omega
    rw [advances_add, advances_idle h k (by omega), advances_one,
      advanceScanline_idle (by simp only [State.setPpu_ppu]; omega), moveScanline_eq, List.replicate_succ']
    simp [hlast, add_assoc]

/-- Line 260 answers false, and the pre-render line follows it. -/
theorem advances_lastLine (h : p.scanline = 260) :
    advances 1 (s.setPpu p) = ([false], s.setPpu { p with scanline := -1 }) := by
  rw [advances_one, advanceScanline_idle (by simp only [State.setPpu_ppu]; omega), moveScanline_eq]
  simp [h]

end

/-- The answers of the phases one after another: only the 243rd can be true. -/
theorem frameAnswers (nmi : Bool) :
    [false] ++ (List.replicate 241 false ++ ([nmi] ++ (List.replicate 18 false ++ [false]))) =
      (List.range 262).map fun k => nmi && decide (k = 242) := by
  have hfalse (start n : Nat) (h : ∀ k, start ≤ k → k < start + n → k ≠ 242) :
      (List.range' start n).map (fun k => nmi && decide (k = 242)) = List.replicate n false := by
    refine List.eq_replicate_iff.2 ⟨by simp, fun b hb => ?_⟩
    obtain ⟨k, hk, rfl⟩ := List.mem_map.1 hb
    obtain ⟨hlo, hhi⟩ := List.mem_range'_1.1 hk
    simp [h k hlo hhi]
  have hsplit : List.range 262 = List.range' 0 242 ++ (242 :: List.range' 243 19) :=
    List.range_eq_range'.trans (List.range'_append_1 (s := 0) (m := 242) (n := 20)).symm
  rw [hsplit, List.map_append, List.map_cons, hfalse 0 242 (by omega), hfalse 243 19 (by omega), decide_eq_true rfl,
    Bool.and_true, List.replicate_succ (n := 241), List.replicate_succ' (n := 18)]
  rfl

/-- Settles O47: the pre-render line, 241 visible lines, the vblank line, 18 idle lines and the last one. -/
theorem frameIs262Advances : Obligations.FrameIs262Advances := by
  intro s h r nmi hit
  have hframe := advances_trans (advances_preRender s h) <| advances_trans (advances_visible s (by rfl) 241 le_rfl) <|
    advances_trans (advances_vblank s (by rfl) (ctrl := s.ppu.ctrl) (by rfl)) <|
    advances_trans (advances_idle _ (by rfl) 18 le_rfl) (advances_lastLine _ (by rfl))
  have hr : r = _ := hframe
  have hhit : hit = ((bit s.ppu.mask 3 || bit s.ppu.mask 4) && decide ((Memory.read s.ppu.oam 0).toNat < 241)) := by
    simp only [hit, Nat.lt_succ_iff, oamByte]; rfl
  rw [hr, hhit]
  refine ⟨frameAnswers nmi, ?_⟩
  simp only [nmi]
  generalize (if bit s.ppu.ctrl 7 = true then cpuNmi s else s) = t
  simp [State.setPpu, h]

end Sys2Proof.Machine
end

section
/-! The two layers of the compositor in the spec's shifts and masks (49_ppu_compositor.md R263–R274). -/

namespace Sys2Proof.Machine

open Sys2Proof.Claims

/-! Shifts and masks as quotients and remainders. -/

theorem and_three (n : Nat) : n &&& 3 = n % 4 := Nat.and_two_pow_sub_one_eq_mod n 2

theorem and_seven (n : Nat) : n &&& 7 = n % 8 := Nat.and_two_pow_sub_one_eq_mod n 3

theorem shiftRight_three (n : Nat) : n >>> 3 = n / 8 := Nat.shiftRight_eq_div_pow n 3

theorem and_two (n : Nat) : n &&& 2 = n / 2 % 2 * 2 := by
  have h := Nat.and_two_pow n 1
  rwa [Nat.toNat_testBit, pow_one] at h

/-- The even tile of a pair (R271). -/
theorem and_FE_of_byte {n : Nat} (h : n < 256) : n &&& 0xFE = n / 2 * 2 := by
  have hhigh : (n &&& 0xFE) / 2 = n / 2 := by
    rw [Nat.and_div_two]; exact (Nat.and_two_pow_sub_one_eq_mod _ 7).trans (Nat.mod_eq_of_lt (by omega))
  have hlow : (n &&& 0xFE) % 2 = 0 := by rw [Nat.and_mod_two_pow (n := 1)]; simp
  omega

theorem bitNat_mul (v : Byte) (i k : Nat) : k * bitNat v i = if bit v i = true then k else 0 := by
  rw [bitNat_eq]; split <;> simp

/-- One bit of each plane, the high one worth 2 (R266, R271). -/
theorem planeColor_eq_shiftedColor (lo hi : Byte) (column : Nat) : planeColor lo hi column = shiftedColor lo hi column := by
  change _ = bitNat hi (7 - column) <<< 1 ||| bitNat lo (7 - column)
  rw [bitNat_eq, bitNat_eq, planeColor]
  cases bit hi (7 - column) <;> cases bit lo (7 - column) <;> rfl

theorem tileColor_eq_shiftedColor (s : State) (addr column : Nat) :
    tileColor s addr column = shiftedColor (vramRead s addr) (vramRead s (addr + 8)) column :=
  planeColor_eq_shiftedColor _ _ _

/-! The front sprite (R274). -/

theorem firstSprite_eq_findSome? (s : State) (x y : Nat) : ∀ ns : List Nat,
    firstSprite s x y ns = ns.findSome? (spritePixelOf s x y)
  | [] => rfl
  | n :: ns => by
    rw [firstSprite, List.findSome?_cons, firstSprite_eq_findSome? s x y ns]
    cases spritePixelOf s x y n <;> rfl

/-- The first hit of a search through `0 .. n-1` is at the lowest number that gives one. -/
theorem findSome?_range_eq_some {α : Type} {f : Nat → Option α} {c : α} : ∀ {n : Nat},
    (List.range n).findSome? f = some c ↔ ∃ m, m < n ∧ f m = some c ∧ ∀ k, k < m → f k = none
  | 0 => by simp
  | n + 1 => by
    rw [List.range_succ, List.findSome?_append, Option.or_eq_some_iff, findSome?_range_eq_some,
      List.findSome?_singleton]
    constructor
    · rintro (⟨m, hm, h⟩ | ⟨hnone, hn⟩)
      · exact ⟨m, by omega, h⟩
      · exact ⟨n, by omega, hn, fun k hk => List.findSome?_eq_none_iff.1 hnone k (List.mem_range.2 hk)⟩
    · rintro ⟨m, hm, hc, hbefore⟩
      rcases Nat.lt_succ_iff_lt_or_eq.1 hm with hlt | rfl
      · exact .inl ⟨m, hlt, hc, hbefore⟩
      · exact .inr ⟨List.findSome?_eq_none_iff.2 fun k hk => hbefore k (List.mem_range.1 hk), hc⟩

theorem spritePixel_eq_findSome? (s : State) (x y : Nat) : spritePixel s x y =
    if bit s.ppu.mask 4 = true then (List.range 64).findSome? (spritePixelOf s x y) else none := by
  rw [spritePixel, firstSprite_eq_findSome?]

/-- Settles O49: the enabled layer is a search through the 64 records in order, and a hit is in front. -/
theorem frontSpriteIsTheLowestNumbered : Obligations.FrontSpriteIsTheLowestNumbered := by
  intro s x y
  refine ⟨fun c => ?_, ?_, fun c h => ?_, fun h => ?_⟩
  · rw [spritePixel_eq_findSome?, Option.ite_none_right_eq_some, findSome?_range_eq_some]
  · rw [spritePixel_eq_findSome?, ite_eq_right_iff, List.findSome?_eq_none_iff, ← Bool.not_eq_true, ← imp_iff_not_or]
    simp only [List.mem_range]
  · rw [pixelIndex_of_sprite h, Nat.mul_comm]
  · rw [pixelIndex_of_noSprite h, Nat.mul_comm]

/-! One sprite (R270–R273). -/

theorem spriteHeight_eq (p : Ppu) : spriteHeight p = 8 + 8 * bitNat p.ctrl 5 := by
  rw [spriteHeight, bitNat_mul]; split <;> rfl

theorem Sprite.covers_iff {o : Sprite} {h x y : Nat} : o.covers h x y = true ↔
    o.y < 0xEF ∧ o.y + 1 ≤ y ∧ y ≤ o.y + h ∧ o.x ≤ x ∧ x ≤ o.x + 7 := by
  simp only [Sprite.covers, Bool.and_eq_true, decide_eq_true_eq]
  omega

theorem Sprite.row_eq (o : Sprite) (h y : Nat) :
    o.row h y = if bitNat o.bits 7 = 1 then h - 1 - (y - (o.y + 1)) else y - (o.y + 1) := by
  simp only [Sprite.row, bitNat_eq_one]

theorem Sprite.column_eq (o : Sprite) (x : Nat) :
    o.column x = if bitNat o.bits 6 = 1 then 7 - (x - o.x) else x - o.x := by
  simp only [Sprite.column, bitNat_eq_one]

/-- The address in both sizes; a tile index is a byte. -/
theorem Sprite.patternAddr_eq {o : Sprite} (ht : o.tile < 256) (p : Ppu) (r : Nat) : o.patternAddr p r =
    if spriteHeight p = 8 then 0x1000 * bitNat p.ctrl 3 + o.tile * 16 + r
    else 0x1000 * (o.tile &&& 1) + ((o.tile &&& 0xFE) + (r >>> 3)) * 16 + (r &&& 7) := by
  have htable : 0x1000 * (o.tile &&& 1) = if o.tile % 2 = 1 then 0x1000 else 0 := by
    rw [Nat.and_one_is_mod]; split <;> omega
  rw [Sprite.patternAddr, spriteHeight, bitNat_mul, htable, and_FE_of_byte ht, shiftRight_three, and_seven]
  cases bit p.ctrl 5 <;> rfl

/-- Settles O50: coverage, row, column and address one by one; a colour of 0 gives no pixel. -/
theorem spritePixelFormula : Obligations.SpritePixelFormula := by
  intro s x y n sy tile attr sx h r cx pa c
  have hh : spriteHeight s.ppu = h := spriteHeight_eq s.ppu
  have hr : (spriteRecord s n).row h y = r := Sprite.row_eq _ h y
  have hcx : (spriteRecord s n).column x = cx := Sprite.column_eq _ x
  have hpa : (spriteRecord s n).patternAddr s.ppu r = pa := by
    rw [Sprite.patternAddr_eq (BitVec.isLt _), hh]; rfl
  have hcolor : tileColor s pa cx = c := tileColor_eq_shiftedColor s pa cx
  have hpalette : attr.toNat &&& 3 = attr.toNat % 4 := and_three _
  simp only [spritePixelOf, hh, hr, hcx, hpa, hcolor, hpalette, Sprite.covers_iff]
  by_cases hc : c = 0
  · simp [hc]
  · simp only [hc, if_false, ne_eq, not_false_eq_true, and_true]; rfl

/-! The background (R263–R268). -/

theorem planeX_eq (p : Ppu) (x : Nat) : planeX p x = (x + p.scroll.toNat / 256 + 256 * bitNat p.ctrl 0) % 512 := by
  rw [planeX, Ppu.scrollX, hiByte_toNat, bitNat_eq]

theorem planeY_eq (p : Ppu) (y : Nat) : planeY p y = (y + p.scroll.toNat % 256 + 240 * bitNat p.ctrl 1) % 480 := by
  rw [planeY, Ppu.scrollY, loByte_toNat, bitNat_eq]

/-- Where a tile's palette number stands in its byte: bit 1 of the row, then bit 1 of the column (R267). -/
theorem attributeShift_eq (row col : Nat) :
    ((row &&& 2) <<< 1) ||| (col &&& 2) = row / 2 % 2 * 4 + col / 2 % 2 * 2 := by
  rw [and_two, and_two]
  rcases Nat.mod_two_eq_zero_or_one (row / 2) with hr | hr <;> rcases Nat.mod_two_eq_zero_or_one (col / 2) with hc | hc <;>
    rw [hr, hc] <;> rfl

theorem backgroundPalette_eq (s : State) (wx wy : Nat) : backgroundPalette s wx wy =
    ((vramRead s (nametableBase wx wy + 0x3C0 + tileRow wy / 4 * 8 + tileColumn wx / 4)).toNat >>>
      (((tileRow wy &&& 2) <<< 1) ||| (tileColumn wx &&& 2))) &&& 3 := by
  rw [attributeShift_eq, and_three, Nat.shiftRight_eq_div_pow]
  rfl

/-- Settles O51: the coordinates, the tile's row and the palette number one by one. -/
theorem backgroundPixelFormula : Obligations.BackgroundPixelFormula := by
  intro s x y wx wy base col row tile pa at_
  have hwx : planeX s.ppu x = wx := planeX_eq s.ppu x
  have hwy : planeY s.ppu y = wy := planeY_eq s.ppu y
  refine ⟨fun h => ?_, fun h => ?_⟩
  · simp only [backgroundPixel, h, if_true, hwx, hwy, tileColor_eq_shiftedColor, backgroundPalette_eq, pa,
      bitNat_mul]
    rfl
  · simp only [backgroundPixel, h, Bool.false_eq_true, if_false]

end Sys2Proof.Machine
end

section
/-! The two resets (70_reset_and_hazards.md R340, R341, R345). -/

namespace Sys2Proof.Machine

open Sys2Proof.Claims

/-- The reset vector stands in PRG ROM, so reading it changes nothing. -/
theorem cpuReset_eq (s : State) : cpuReset s = { s with
    cpu := Cpu.afterReset (wordNat (busRead s 0xFFFC).1 (busRead s 0xFFFD).1), halted := none, phase := .running } := by
  rw [cpuReset, readVector_of_prg (vec := vecReset) (by decide) (by decide), wordOf_eq_wordNat,
    busRead_of_prg (windowOf_high (by decide)), busRead_of_prg (windowOf_high (by decide))]
  rfl

theorem busRead_of_blankPrg {s : State} (hbank : s.cart.prgBanks ≠ 0) (hprg : s.cart.prg = []) {a : Word}
    (h : 0x8000 ≤ a.toNat) : (busRead s a).1 = 0 := by
  rw [busRead_of_prg (windowOf_high h), prgRead_of_banks hbank, hprg]
  rfl

/-- Settles O53: each reset is one equation; a blank cartridge's vector is 0. -/
theorem resetsLeaveTheStatedValues : Obligations.ResetsLeaveTheStatedValues := by
  intro s hbank c p
  have hc : c = _ := cpuReset_eq s
  refine ⟨hc, rfl, ?_, fun hprg hram hfb hnt hpal hoam hmode h0 h1 hcart => ?_⟩
  · rw [hc, cpuReset_eq]; rfl
  · have hvector : wordNat (busRead s 0xFFFC).1 (busRead s 0xFFFD).1 = 0 := by
      rw [busRead_of_blankPrg hbank hprg (by decide), busRead_of_blankPrg hbank hprg (by decide)]; rfl
    rw [hc, hvector]
    simp [ppuReset, State.reset, hram, hfb, hnt, hpal, hoam, hmode, h0, h1, hcart]

end Sys2Proof.Machine
end

section
/-! What an instruction can do, said once (30_encoding.md R130, R131; 10_state.md R25): it is a sequence of register and
flag writes its tables allow, bus reads and bus writes. -/

namespace Sys2Proof.Machine

open Sys2Proof.Claims

/-- `t` is reached from `s` by writes of registers and flags that the tables of R131 and R25 name instruction `i` for,
writes of `PC`, bus reads and bus writes. -/
inductive Runs (i : Instr) (s : State) : State → Prop
  | start : Runs i s s
  | pc {t : State} (h : Runs i s t) (v : Word) : Runs i s (t.setPc v)
  | a {t : State} (h : Runs i s t) (hw : writesA i = true) (v : Byte) : Runs i s (t.setA v)
  | x {t : State} (h : Runs i s t) (hw : writesX i = true) (v : Byte) : Runs i s (t.setX v)
  | y {t : State} (h : Runs i s t) (hw : writesY i = true) (v : Byte) : Runs i s (t.setY v)
  | sp {t : State} (h : Runs i s t) (hw : writesS i = true) (v : Byte) : Runs i s (t.setS v)
  /-- U and B are never written one at a time (R24). -/
  | flag {t : State} (h : Runs i s t) {f : Flag} (hw : writesFlag f i.mnemonic = true) (hub : f ≠ .u ∧ f ≠ .b)
      (on : Bool) : Runs i s (t.setFlag f on)
  /-- The whole status, made of a pulled byte (R213, R223). -/
  | pulled {t : State} (h : Runs i s t) (hw : ∀ f, writesFlag f i.mnemonic = true) (v : Byte) :
      Runs i s (t.setP (pulledStatus v))
  | read {t : State} (h : Runs i s t) (addr : Word) : Runs i s (busRead t addr).2
  | write {t u : State} (h : Runs i s t) {addr : Word} {v : Byte} (hw : busWrite t addr v = .next u) : Runs i s u

namespace Runs

variable {i : Instr} {s t u : State}

theorem trans (h : Runs i s t) (k : Runs i t u) : Runs i s u := by
  induction k with
  | start => exact h
  | pc _ v ih => exact ih.pc v
  | a _ hw v ih => exact ih.a hw v
  | x _ hw v ih => exact ih.x hw v
  | y _ hw v ih => exact ih.y hw v
  | sp _ hw v ih => exact ih.sp hw v
  | flag _ hw hub on ih => exact ih.flag hw hub on
  | pulled _ hw v ih => exact ih.pulled hw v
  | read _ addr ih => exact ih.read addr
  | write _ hw ih => exact ih.write hw

theorem setZN (h : Runs i s t) (hw : writesZN i.mnemonic = true) (v : Byte) : Runs i s (setZN v t) :=
  (h.flag (f := .z) hw (by decide) _).flag (f := .n) hw (by decide) _

/-- A push is a bus write in the stack page. -/
theorem push8 (h : Runs i s t) (hw : writesS i = true) (v : Byte) : Runs i s (push8 v t) :=
  (h.write (busWrite_of_ram (windowOf_stackAddr t.cpu.s) t v)).sp hw _

theorem pushWord (h : Runs i s t) (hw : writesS i = true) (w : Word) : Runs i s (pushWord w t) :=
  (h.push8 hw _).push8 hw _

theorem readWord (h : Runs i s t) (aLo aHi : Word) : Runs i s (readWord aLo aHi t).2 := (h.read aLo).read aHi

theorem fetch8 (h : Runs i s t) : Runs i s (fetch8 t).2 := (h.read t.cpu.pc).pc _

theorem operandRead (o : Operand) : Runs i s (o.read s).2 := by
  cases o
  case none | imm => exact .start
  all_goals exact Runs.start.read _

end Runs

/-! The four kinds of instruction: those with an operand to read, to write and to modify, and the rest. -/

section
variable {i : Instr} {s t : State}

/-- After the operand's read: a register or none, and flags (R141–R143, R160–R168). -/
theorem runs_of_readOp {op : Byte × State → Result} (hop : readOp i.mnemonic = some op) (h : exec i s = .next t) :
    Runs i s t := by
  rw [exec_of_readOp hop] at h
  have ho : Runs i s ((operandOf i).read s).2 := .operandRead _
  generalize hm : i.mnemonic = m at hop
  cases m <;> cases hop <;> obtain rfl := Host.Outcome.next.inj h
  case lda | and | ora | eor => exact (ho.a (by rw [writesA, hm]; rfl) _).setZN (by rw [hm]; rfl) _
  case ldx => exact (ho.x (by rw [writesX, hm]; rfl) _).setZN (by rw [hm]; rfl) _
  case ldy => exact (ho.y (by rw [writesY, hm]; rfl) _).setZN (by rw [hm]; rfl) _
  case adc | sbc =>
    exact (((ho.flag (f := .c) (by rw [hm]; rfl) (by decide) _).flag (f := .v) (by rw [hm]; rfl) (by decide) _).a
      (by rw [writesA, hm]; rfl) _).setZN (by rw [hm]; rfl) _
  case cmp | cpx | cpy => exact (ho.flag (f := .c) (by rw [hm]; rfl) (by decide) _).setZN (by rw [hm]; rfl) _
  case bit =>
    exact ((ho.flag (f := .z) (by rw [hm]; rfl) (by decide) _).flag (f := .n) (by rw [hm]; rfl) (by decide) _).flag
      (f := .v) (by rw [hm]; rfl) (by decide) _

theorem runs_of_storedRegister {reg : Cpu → Byte} (hreg : storedRegister i.mnemonic = some reg)
    (h : exec i s = .next t) : Runs i s t := by
  rw [exec_of_storedRegister hreg] at h
  exact Runs.start.write h

theorem runs_of_stepMem (hzn : writesZN i.mnemonic = true) {f : Byte → Byte} {addr : Word}
    (h : stepMem f (addr, s) = .next t) : Runs i s t := by
  obtain ⟨u, hu, hnext⟩ := andThen_eq_next h
  obtain rfl := Host.Outcome.next.inj hnext
  exact ((Runs.start.read addr).write hu).setZN hzn _

theorem runs_of_shiftMem (hc : writesFlag .c i.mnemonic = true) (hzn : writesZN i.mnemonic = true) {f : Shifter}
    {addr : Word} (h : shiftMem f (addr, s) = .next t) : Runs i s t := by
  obtain ⟨u, hu, hnext⟩ := andThen_eq_next h
  obtain rfl := Host.Outcome.next.inj hnext
  exact (((Runs.start.read addr).flag hc (by decide) _).write hu).setZN hzn _

/-- One read, the carry of a shift, one write, Z and N (R169, R170, R180–R183). -/
theorem runs_of_modifyOp {op : Word × State → Result} (hop : modifyOp i.mnemonic = some op) (hmode : i.mode ≠ .imp)
    (h : exec i s = .next t) : Runs i s t := by
  rw [exec_of_modifyOp hop hmode] at h
  generalize hm : i.mnemonic = m at hop
  cases m <;> cases hop
  case inc | dec => exact runs_of_stepMem (by rw [hm]; rfl) h
  case asl | lsr | rol | ror => exact runs_of_shiftMem (by rw [hm]; rfl) (by rw [hm]; rfl) h

theorem runs_of_shiftA (ha : writesA i = true) (hc : writesFlag .c i.mnemonic = true)
    (hzn : writesZN i.mnemonic = true) {f : Shifter} (h : shiftA f s = .next t) : Runs i s t := by
  obtain rfl := Host.Outcome.next.inj h
  exact ((Runs.start.flag hc (by decide) _).a ha _).setZN hzn _

theorem runs_of_branchIf {cond : Bool} {off : Byte} (h : branchIf cond off s = .next t) : Runs i s t := by
  obtain rfl := Host.Outcome.next.inj h
  cases cond
  · exact .start
  · exact Runs.start.pc _

/-- The instructions without an operand in memory: one sequence each (R131, R147–R152, R171–R174, R190–R223). -/
theorem runs_of_noOperand (hop : operandOf i = .none) (h : exec i s = .next t) : Runs i s t := by
  cases i <;> cases hop
  case aslAcc | lsrAcc | rolAcc | rorAcc => exact runs_of_shiftA rfl rfl rfl h
  case bcc | bcs | beq | bne | bmi | bpl | bvc | bvs => exact runs_of_branchIf h
  all_goals obtain rfl := Host.Outcome.next.inj h
  case tax | tsx | inx | dex => exact (Runs.start.x rfl _).setZN rfl _
  case tay | iny | dey => exact (Runs.start.y rfl _).setZN rfl _
  case txa | tya => exact (Runs.start.a rfl _).setZN rfl _
  case txs => exact Runs.start.sp rfl _
  case jmpAbs => exact Runs.start.pc _
  case jmpInd => exact (Runs.start.readWord _ _).pc _
  case jsr => exact (Runs.start.pushWord rfl _).pc _
  case rts => exact ((Runs.start.sp rfl _).sp rfl _).pc _
  case pha | php => exact Runs.start.push8 rfl _
  case pla => exact ((Runs.start.sp rfl _).a rfl _).setZN rfl _
  case plp => exact (Runs.start.sp rfl _).pulled (by intro f; cases f <;> rfl) _
  case clc | sec => exact Runs.start.flag (f := .c) rfl (by decide) _
  case cli | sei => exact Runs.start.flag (f := .i) rfl (by decide) _
  case cld | sed => exact Runs.start.flag (f := .d) rfl (by decide) _
  case clv => exact Runs.start.flag (f := .v) rfl (by decide) _
  case nop => exact .start
  case brk =>
    exact ((((Runs.start.pushWord rfl _).push8 rfl _).flag (f := .i) rfl (by decide) true).readWord _ _).pc _
  case rti =>
    exact ((((Runs.start.sp rfl _).pulled (by intro f; cases f <;> rfl) _).sp rfl _).sp rfl _).pc _

end

/-- Every instruction is of one of the four kinds. -/
theorem Instr.kinds (i : Instr) : (readOp i.mnemonic).isSome = true ∨ (storedRegister i.mnemonic).isSome = true ∨
    ((modifyOp i.mnemonic).isSome = true ∧ i.mode ≠ .imp) ∨ operandOf i = .none := by
  cases i <;> simp [readOp, storedRegister, modifyOp, Instr.mnemonic, Instr.mode, operandOf]

/-- INVERSION OF AN INSTRUCTION THAT GOES ON. -/
theorem runs_of_exec {i : Instr} {s t : State} (h : exec i s = .next t) : Runs i s t := by
  rcases Instr.kinds i with hread | hstore | ⟨hmodify, hmode⟩ | hnone
  · exact runs_of_readOp (Option.some_get hread).symm h
  · exact runs_of_storedRegister (Option.some_get hstore).symm h
  · exact runs_of_modifyOp (Option.some_get hmodify).symm hmode h
  · exact runs_of_noOperand hnone h

end Sys2Proof.Machine
end

section
/-! What no instruction changes, and which registers and flags an instruction leaves alone (00_scope.md R8;
10_state.md R25, R28, R35, R41–R44; 30_encoding.md R131): inductions over what an instruction can do. -/

namespace Sys2Proof.Machine

open Sys2Proof.Claims

/-! The frame of a run. -/

theorem keeps_of_busWrite {s t : State} {a : Word} {v : Byte} (h : busWrite s a v = .next t) : WriteKeeps s t := by
  rcases busWrite_cases s a v with ⟨u, hu, hkeeps⟩ | ⟨hfault, -⟩
  · obtain rfl := Host.Outcome.next.inj (hu.symm.trans h)
    exact hkeeps
  · rw [hfault] at h; contradiction

/-- Two states that agree but for their registers agree under any registers. -/
theorem WriteKeeps.setCpu {s t : State} (h : WriteKeeps s t) (c : Cpu) :
    WriteKeeps { s with cpu := c } { t with cpu := c } :=
  ⟨rfl, h.fb, h.halted, h.phase, h.writeMode, h.cart, h.chrRom, h.scanline, h.spr0, h.ovf, h.joyState⟩

/-- Registers aside, an instruction keeps what a bus write keeps. -/
theorem Runs.keeps {i : Instr} {s t : State} (h : Runs i s t) : WriteKeeps { s with cpu := t.cpu } t := by
  induction h with
  | start => exact .refl s
  | read _ addr ih =>
    rw [busRead_cpu]
    exact ih.trans (busRead_keeps _ addr)
  | write _ hw ih =>
    have hkeeps := keeps_of_busWrite hw
    rw [hkeeps.cpu]
    exact ih.trans hkeeps
  | _ => rename_i ih; exact ih.setCpu _

/-- The fetch is bus reads and writes of `PC`, which any instruction may do. -/
theorem runs_of_fetch (i : Instr) (f : Form) (s : State) : Runs i s (fetchOperands f (fetch8 s).2).2 := by
  have hop : Runs i s (fetch8 s).2 := Runs.start.fetch8
  rcases fetchOperands_state f (fetch8 s).2 with h | h | h <;> rw [h]
  · exact hop
  · exact hop.fetch8
  · exact hop.fetch8.fetch8

/-- INVERSION OF A STEP as one run, the fetch included. -/
theorem runs_of_step {s t : State} (h : step s = .next t) : s.Ready ∧ ∃ i, Runs i s t := by
  obtain ⟨hready, f, -, hexec⟩ := step_eq_next h
  exact ⟨hready, _, (runs_of_fetch _ f s).trans (runs_of_exec hexec)⟩

/-- Settles O57: the frame of the step's run. -/
theorem stepNeverTouchesTheFixedParts : Obligations.StepNeverTouchesTheFixedParts := by
  intro s t h
  obtain ⟨⟨hhalted, hphase, hbanks, hmapper⟩, i, hruns⟩ := runs_of_step h
  have hkeeps := hruns.keeps
  refine ⟨hkeeps.cart, fun hrom => hkeeps.chrRom (beq_false_of_ne hrom), hkeeps.fb, hkeeps.scanline, hkeeps.spr0,
    hkeeps.ovf, hkeeps.joyState.1, hkeeps.joyState.2, hkeeps.writeMode, hkeeps.halted.trans hhalted,
    hkeeps.phase.trans hphase, ?_, ?_⟩
  · rw [hkeeps.cart]; exact hbanks
  · rw [hkeeps.cart]; exact hmapper

/-! Registers and flags. -/

/-- A property of the registers that the writes allowed to instruction `i` keep. -/
structure KeptByWrites (i : Instr) (P : Cpu → Prop) : Prop where
  pc : ∀ c v, P c → P { c with pc := v } := by exact fun _ _ h => h
  a : writesA i = true → ∀ c v, P c → P { c with a := v } := by exact fun _ _ _ h => h
  x : writesX i = true → ∀ c v, P c → P { c with x := v } := by exact fun _ _ _ h => h
  y : writesY i = true → ∀ c v, P c → P { c with y := v } := by exact fun _ _ _ h => h
  sp : writesS i = true → ∀ c v, P c → P { c with s := v } := by exact fun _ _ _ h => h
  flag : ∀ f, writesFlag f i.mnemonic = true → f ≠ .u ∧ f ≠ .b → ∀ c on, P c → P { c with p := withFlag c.p f on } := by
    exact fun _ _ _ _ _ h => h
  pulled : (∀ f, writesFlag f i.mnemonic = true) → ∀ c v, P c → P { c with p := pulledStatus v } := by
    exact fun _ _ _ h => h

/-- Such a property holds after the instruction when it held before: bus accesses do not look at the registers. -/
theorem Runs.cpu {i : Instr} {s t : State} {P : Cpu → Prop} (h : Runs i s t) (hP : KeptByWrites i P) (hs : P s.cpu) :
    P t.cpu := by
  induction h with
  | start => exact hs
  | pc _ v ih => exact hP.pc _ v ih
  | a _ hw v ih => exact hP.a hw _ v ih
  | x _ hw v ih => exact hP.x hw _ v ih
  | y _ hw v ih => exact hP.y hw _ v ih
  | sp _ hw v ih => exact hP.sp hw _ v ih
  | flag _ hw hub on ih => exact hP.flag _ hw hub _ on ih
  | pulled _ hw v ih => exact hP.pulled hw _ v ih
  | read _ addr ih => rwa [busRead_cpu]
  | write _ hw ih => rwa [(keeps_of_busWrite hw).cpu]

section
variable {i : Instr}

theorem keptByWrites_a (h : writesA i = false) (v : Byte) : KeptByWrites i fun c => c.a = v :=
  { a := fun hw => absurd hw (by rw [h]; decide) }

theorem keptByWrites_x (h : writesX i = false) (v : Byte) : KeptByWrites i fun c => c.x = v :=
  { x := fun hw => absurd hw (by rw [h]; decide) }

theorem keptByWrites_y (h : writesY i = false) (v : Byte) : KeptByWrites i fun c => c.y = v :=
  { y := fun hw => absurd hw (by rw [h]; decide) }

theorem keptByWrites_s (h : writesS i = false) (v : Byte) : KeptByWrites i fun c => c.s = v :=
  { sp := fun hw => absurd hw (by rw [h]; decide) }

theorem keptByWrites_flag {f : Flag} (h : writesFlag f i.mnemonic = false) (on : Bool) :
    KeptByWrites i fun c => flagOf c.p f = on where
  flag := fun g hw _ c b hc => by
    have hne : f ≠ g := by rintro rfl; rw [h] at hw; contradiction
    rw [flagOf_withFlag, if_neg hne]; exact hc
  pulled := fun hw => absurd (hw f) (by rw [h]; decide)

end

/-- Settles O58: each register and flag keeps its value in a run that does not write it. -/
theorem registersAndFlagsHaveTheirWriters : Obligations.RegistersAndFlagsHaveTheirWriters := by
  intro i s t h
  have hruns := runs_of_exec h
  exact ⟨fun hw => hruns.cpu (keptByWrites_a hw _) rfl, fun hw => hruns.cpu (keptByWrites_x hw _) rfl,
    fun hw => hruns.cpu (keptByWrites_y hw _) rfl, fun hw => hruns.cpu (keptByWrites_s hw _) rfl,
    fun f hw => hruns.cpu (keptByWrites_flag hw _) rfl⟩

end Sys2Proof.Machine
end

section
/-! D and I influence nothing (41_arithmetic_logic.md R176; 60_exceptions.md R306): with one of them written
beforehand, every operation that neither pushes nor writes it does the same and leaves the flag as written. -/

namespace Sys2Proof.Machine

open Sys2Proof.Claims

/-! Flags written in either order, and flags read past one another. -/

theorem withFlag_comm {f g : Flag} (h : f ≠ g) (p : Byte) (b c : Bool) :
    withFlag (withFlag p f b) g c = withFlag (withFlag p g c) f b := by
  refine byte_ext fun k => ?_
  simp only [flagOf_withFlag]
  split_ifs with hg hf
  · exact absurd (hf.symm.trans hg) h
  all_goals rfl

theorem setFlag_comm {f g : Flag} (h : f ≠ g) (s : State) (b c : Bool) :
    (s.setFlag f b).setFlag g c = (s.setFlag g c).setFlag f b :=
  congrArg s.setP (withFlag_comm h s.cpu.p b c)

theorem flag_setFlag_of_ne {f g : Flag} (h : g ≠ f) (s : State) (on : Bool) : (s.setFlag f on).flag g = s.flag g := by
  rw [State.flag, State.setFlag_cpu, flagOf_withFlag, if_neg h]; rfl

/-! Registers. -/

theorem setA_setFlag (s : State) (f : Flag) (on : Bool) (v : Byte) :
    (s.setFlag f on).setA v = (s.setA v).setFlag f on := rfl

/-- What a store writes does not depend on the status. -/
theorem storedRegister_setFlag {m : Mnemonic} {reg : Cpu → Byte} (h : storedRegister m = some reg) (s : State)
    (f : Flag) (on : Bool) : reg (s.setFlag f on).cpu = reg s.cpu := by
  cases m <;> cases h <;> rfl

/-! Bus accesses. -/

theorem busRead_setFlag (s : State) (a : Word) (f : Flag) (on : Bool) :
    busRead (s.setFlag f on) a = ((busRead s a).1, (busRead s a).2.setFlag f on) := by
  rw [State.setFlag, State.setP, busRead_withCpu, State.setFlag, State.setP, busRead_cpu]

theorem busWrite_setFlag (s : State) (a : Word) (v : Byte) (f : Flag) (on : Bool) :
    busWrite (s.setFlag f on) a v = mapNext (fun t => t.setFlag f on) (busWrite s a v) := by
  rw [State.setFlag, busWrite_setP]
  cases h : busWrite s a v
  case next t => rw [← (keeps_of_busWrite h).cpu]; rfl
  all_goals rfl

/-- No effective address depends on the status. -/
theorem address_setFlag (o : Operand) (s : State) (f : Flag) (on : Bool) :
    o.address (s.setFlag f on) = o.address s := by
  cases o
  case izx z => simp only [Operand.address, eaIzx_eq]; rfl
  case izy z => simp only [Operand.address, eaIzy_eq]; rfl
  all_goals rfl

theorem operandRead_setFlag (o : Operand) (s : State) (f : Flag) (on : Bool) :
    o.read (s.setFlag f on) = ((o.read s).1, (o.read s).2.setFlag f on) := by
  cases o
  case none | imm => rfl
  all_goals simp only [Operand.read, address_setFlag]; exact busRead_setFlag s _ f on

theorem andThen_mapNext {r : Result} {g : State → State} {k k' : State → Result}
    (h : ∀ t, k (g t) = mapNext g (k' t)) : andThen (mapNext g r) k = mapNext g (andThen r k') := by
  cases r
  case next t => exact h t
  all_goals rfl

/-! The operations. -/

section
variable {f : Flag} (hf : f = .d ∨ f = .i) (on : Bool)
include hf

theorem ne_of_d_or_i {g : Flag} (hd : g ≠ .d := by decide) (hi : g ≠ .i := by decide) : f ≠ g := by
  rcases hf with rfl | rfl
  · exact hd.symm
  · exact hi.symm

theorem setZN_setFlag (v : Byte) (s : State) : setZN v (s.setFlag f on) = (setZN v s).setFlag f on := by
  rw [setZN, setFlag_comm (ne_of_d_or_i hf (g := .z)), setFlag_comm (ne_of_d_or_i hf (g := .n))]; rfl

theorem addWithCarry_setFlag (m : Byte) (s : State) :
    addWithCarry m (s.setFlag f on) = (addWithCarry m s).setFlag f on := by
  simp only [addWithCarry, State.setFlag_cpu, flag_setFlag_of_ne (ne_of_d_or_i hf (g := .c)).symm,
    setFlag_comm (ne_of_d_or_i hf (g := .c)), setFlag_comm (ne_of_d_or_i hf (g := .v)), setA_setFlag, setZN_setFlag hf]

theorem compareWith_setFlag (r m : Byte) (s : State) :
    compareWith r m (s.setFlag f on) = (compareWith r m s).setFlag f on := by
  rw [compareWith, setFlag_comm (ne_of_d_or_i hf (g := .c)), setZN_setFlag hf]; rfl

/-- Every operation of the read class. -/
theorem readOp_setFlag {m : Mnemonic} {op : Byte × State → Result} (hop : readOp m = some op) (v : Byte) (s : State) :
    op (v, s.setFlag f on) = mapNext (fun t => t.setFlag f on) (op (v, s)) := by
  cases m <;> cases hop
  case lda | and | ora | eor => exact congrArg Host.Outcome.next (setZN_setFlag hf on _ (s.setA _))
  case ldx => exact congrArg Host.Outcome.next (setZN_setFlag hf on v (s.setX v))
  case ldy => exact congrArg Host.Outcome.next (setZN_setFlag hf on v (s.setY v))
  case adc | sbc => exact congrArg Host.Outcome.next (addWithCarry_setFlag hf on _ _)
  case cmp | cpx | cpy => exact congrArg Host.Outcome.next (compareWith_setFlag hf on _ _ _)
  case bit =>
    simp only [bitTest, State.setFlag_cpu, setFlag_comm (ne_of_d_or_i hf (g := .z)),
      setFlag_comm (ne_of_d_or_i hf (g := .n)), setFlag_comm (ne_of_d_or_i hf (g := .v))]
    rfl

theorem stepMem_setFlag (g : Byte → Byte) (a : Word) (s : State) :
    stepMem g (a, s.setFlag f on) = mapNext (fun t => t.setFlag f on) (stepMem g (a, s)) := by
  simp only [stepMem, readAt, busRead_setFlag, busWrite_setFlag]
  exact andThen_mapNext (g := fun t => t.setFlag f on) fun t => congrArg Host.Outcome.next (setZN_setFlag hf on _ t)

theorem shiftMem_setFlag (g : Shifter) (a : Word) (s : State) :
    shiftMem g (a, s.setFlag f on) = mapNext (fun t => t.setFlag f on) (shiftMem g (a, s)) := by
  simp only [shiftMem, readAt, busRead_setFlag, flag_setFlag_of_ne (ne_of_d_or_i hf (g := .c)).symm,
    setFlag_comm (ne_of_d_or_i hf (g := .c)), busWrite_setFlag]
  exact andThen_mapNext (g := fun t => t.setFlag f on) fun t => congrArg Host.Outcome.next (setZN_setFlag hf on _ t)

theorem modifyOp_setFlag {m : Mnemonic} {op : Word × State → Result} (hop : modifyOp m = some op) (a : Word)
    (s : State) : op (a, s.setFlag f on) = mapNext (fun t => t.setFlag f on) (op (a, s)) := by
  cases m <;> cases hop
  case inc | dec => exact stepMem_setFlag hf on _ a s
  case asl | lsr | rol | ror => exact shiftMem_setFlag hf on _ a s

theorem shiftA_setFlag (g : Shifter) (s : State) :
    shiftA g (s.setFlag f on) = mapNext (fun t => t.setFlag f on) (shiftA g s) := by
  simp only [shiftA, State.setFlag_cpu, flag_setFlag_of_ne (ne_of_d_or_i hf (g := .c)).symm,
    setFlag_comm (ne_of_d_or_i hf (g := .c)), setA_setFlag, setZN_setFlag hf, mapNext]

omit hf in
theorem branchIf_setFlag {g : Flag} (hg : f ≠ g) (test : Bool → Bool) (off : Byte) (s : State) :
    branchIf (test ((s.setFlag f on).flag g)) off (s.setFlag f on) =
      mapNext (fun t => t.setFlag f on) (branchIf (test (s.flag g)) off s) := by
  rw [flag_setFlag_of_ne hg.symm]
  cases h : test (s.flag g) <;> rfl

/-- The instructions without an operand in memory that neither push nor write D or I. -/
theorem exec_setFlag_of_noOperand {i : Instr} (hop : operandOf i = .none) (htouch : touchesDOrI i.mnemonic = false)
    (s : State) : exec i (s.setFlag f on) = mapNext (fun t => t.setFlag f on) (exec i s) := by
  have hload {m : Mnemonic} {op : Byte × State → Result} (h : readOp m = some op) (v : Byte) (t : State) :=
    readOp_setFlag hf on h v t
  cases i <;> cases hop <;> cases htouch
  case tax | tsx | inx | dex => exact hload (m := .ldx) rfl _ s
  case tay | iny | dey => exact hload (m := .ldy) rfl _ s
  case txa | tya => exact hload (m := .lda) rfl _ s
  case pla => exact hload (m := .lda) rfl _ (pull8 s).2
  case aslAcc | lsrAcc | rolAcc | rorAcc => exact shiftA_setFlag hf on _ s
  case bcc => exact branchIf_setFlag on (ne_of_d_or_i hf (g := .c)) not _ s
  case bcs => exact branchIf_setFlag on (ne_of_d_or_i hf (g := .c)) id _ s
  case bne => exact branchIf_setFlag on (ne_of_d_or_i hf (g := .z)) not _ s
  case beq => exact branchIf_setFlag on (ne_of_d_or_i hf (g := .z)) id _ s
  case bpl => exact branchIf_setFlag on (ne_of_d_or_i hf (g := .n)) not _ s
  case bmi => exact branchIf_setFlag on (ne_of_d_or_i hf (g := .n)) id _ s
  case bvc => exact branchIf_setFlag on (ne_of_d_or_i hf (g := .v)) not _ s
  case bvs => exact branchIf_setFlag on (ne_of_d_or_i hf (g := .v)) id _ s
  case clc | sec => exact congrArg Host.Outcome.next (setFlag_comm (ne_of_d_or_i hf (g := .c)) s on _)
  case clv => exact congrArg Host.Outcome.next (setFlag_comm (ne_of_d_or_i hf (g := .v)) s on _)
  case jmpInd ptr =>
    change jumpTo (readWord ptr (indHighAddr ptr) (s.setFlag f on)) = _
    simp only [readWord, busRead_setFlag]; rfl
  all_goals rfl

end

/-- Settles O59: the four kinds of instruction, each over the same bus accesses. -/
theorem decimalAndInterruptFlagsInfluenceNothing : Obligations.DecimalAndInterruptFlagsInfluenceNothing := by
  intro i s f on hf htouch
  rcases Instr.kinds i with hread | hstore | ⟨hmodify, hmode⟩ | hnone
  · have hop := (Option.some_get hread).symm
    rw [exec_of_readOp hop, exec_of_readOp hop, operandRead_setFlag]
    exact readOp_setFlag hf on hop _ _
  · have hreg := (Option.some_get hstore).symm
    rw [exec_of_storedRegister hreg, exec_of_storedRegister hreg, address_setFlag, busWrite_setFlag,
      storedRegister_setFlag hreg]
  · have hop := (Option.some_get hmodify).symm
    rw [exec_of_modifyOp hop hmode, exec_of_modifyOp hop hmode, address_setFlag]
    exact modifyOp_setFlag hf on hop _ s
  · exact exec_setFlag_of_noOperand hf on hnone htouch s

end Sys2Proof.Machine
end

section
/-! The stores stay canonical and within their sizes (10_state.md R27–R32, R44): bus accesses write inside them. -/

namespace Sys2Proof.Machine

open Sys2Proof.Claims

/-- Each store in canonical form and within its size, by name. -/
structure State.Sound (s : State) : Prop where
  ram : Memory.sound 2048 s.ram = true
  nt : Memory.sound 2048 s.ppu.nt = true
  pal : Memory.sound 32 s.ppu.pal = true
  oam : Memory.sound 256 s.ppu.oam = true
  fb : Memory.sound (frameHeight * frameWidth) s.fb = true
  prg : Memory.sound s.cart.prgBytes s.cart.prg = true
  chr : Memory.sound s.cart.chrBytes s.cart.chr = true

theorem State.storesSound_iff {s : State} : s.storesSound = true ↔ s.Sound := by
  simp only [State.storesSound, Bool.and_eq_true]
  exact ⟨fun ⟨⟨⟨⟨⟨⟨ram, nt⟩, pal⟩, oam⟩, fb⟩, prg⟩, chr⟩ => ⟨ram, nt, pal, oam, fb, prg, chr⟩,
    fun ⟨ram, nt, pal, oam, fb, prg, chr⟩ => ⟨⟨⟨⟨⟨⟨ram, nt⟩, pal⟩, oam⟩, fb⟩, prg⟩, chr⟩⟩

/-- All that soundness looks at: the stores, and the cartridge's bank counts. -/
def State.stores (s : State) : Memory × Memory × Memory × Memory × Memory × Cartridge :=
  (s.ram, s.ppu.nt, s.ppu.pal, s.ppu.oam, s.fb, s.cart)

section
variable {s t : State}

theorem State.Sound.of_stores (h : s.Sound) (hstores : t.stores = s.stores) : t.Sound := by
  simp only [State.stores, Prod.mk.injEq] at hstores
  obtain ⟨hram, hnt, hpal, hoam, hfb, hcart⟩ := hstores
  refine ⟨?_, ?_, ?_, ?_, ?_, ?_, ?_⟩
  · rw [hram]; exact h.ram
  · rw [hnt]; exact h.nt
  · rw [hpal]; exact h.pal
  · rw [hoam]; exact h.oam
  · rw [hfb]; exact h.fb
  · rw [hcart]; exact h.prg
  · rw [hcart]; exact h.chr

/-! Writes of one store. -/

theorem State.Sound.setRam (h : s.Sound) {m : Memory} (hm : Memory.sound 2048 m = true) : (s.setRam m).Sound :=
  ⟨hm, h.nt, h.pal, h.oam, h.fb, h.prg, h.chr⟩

theorem State.Sound.setOam (h : s.Sound) {m : Memory} (hm : Memory.sound 256 m = true) : (s.setOam m).Sound :=
  ⟨h.ram, h.nt, h.pal, hm, h.fb, h.prg, h.chr⟩

theorem State.Sound.setFb (h : s.Sound) {m : Memory} (hm : Memory.sound (frameHeight * frameWidth) m = true) :
    (s.setFb m).Sound :=
  ⟨h.ram, h.nt, h.pal, h.oam, hm, h.prg, h.chr⟩

/-- The pattern store holds at least one bank (R29). -/
theorem Cartridge.le_chrBytes (c : Cartridge) : 0x2000 ≤ c.chrBytes :=
  Nat.mul_le_mul_right 8192 (Nat.le_max_right c.chrBanks.toNat 1)

/-! Bus accesses. -/

theorem sound_busRead (h : s.Sound) (a : Word) : (busRead s a).2.Sound := by
  obtain ⟨_, _, _, _, _, _, ht⟩ := onlyPortsMoved_iff.1 (busRead_onlyPortsMoved s a)
  rw [ht]
  exact h.of_stores rfl

/-- A place in PPU memory is inside the store it names (R81–R87). -/
theorem sound_vramWrite (h : s.Sound) (addr : Nat) (v : Byte) : (vramWrite s addr v).Sound := by
  unfold vramWrite
  rcases vramPlace_cases s.cart.mirroring addr with ⟨i, hplace, hi, -⟩ | ⟨i, hplace, hi, -⟩ | ⟨i, hplace, hi, -⟩ <;>
    simp only [hplace]
  · split
    · exact ⟨h.ram, h.nt, h.pal, h.oam, h.fb, h.prg, Memory.sound_write h.chr (hi.trans_le s.cart.le_chrBytes) v⟩
    · exact h
  · exact ⟨h.ram, Memory.sound_write h.nt hi v, h.pal, h.oam, h.fb, h.prg, h.chr⟩
  · exact ⟨h.ram, h.nt, Memory.sound_write h.pal hi v, h.oam, h.fb, h.prg, h.chr⟩

theorem sound_ppuRegWrite (h : s.Sound) (r : Port) (v : Byte) : (ppuRegWrite s r v).Sound := by
  cases r
  case oamData => exact (h.setOam (Memory.sound_write h.oam s.ppu.oamAddr.isLt v)).of_stores rfl
  case vramData => exact (sound_vramWrite h _ v).of_stores rfl
  case scroll | vramAddress =>
    simp only [ppuRegWrite]
    split
    · exact h.of_stores rfl
    · exact h.of_stores rfl
  all_goals exact h.of_stores rfl

theorem sound_oamDmaFrom (page : Byte) : ∀ {n i : Nat} {s : State}, i + n ≤ 256 → s.Sound →
    (oamDmaFrom page n i s).Sound
  | 0, _, _, _, h => h
  | n + 1, i, s, hle, h =>
    have hread := sound_busRead h (dmaSource page i)
    sound_oamDmaFrom page (n := n) (i := i + 1) (by omega) (hread.setOam (Memory.sound_write hread.oam (by omega) _))

theorem sound_apuWrite (h : s.Sound) (o : ApuPort) (v : Byte) : (apuWrite s o v).Sound := by
  cases o
  case dma => exact sound_oamDmaFrom v le_rfl h
  all_goals exact h.of_stores rfl

theorem sound_of_writeViolation {a : Word} {v : Byte} (h : s.Sound) (hw : writeViolation s a v = .next t) : t.Sound := by
  rw [writeViolation_eq] at hw
  split at hw
  · contradiction
  · exact Host.Outcome.next.inj hw ▸ h

theorem sound_of_busWrite {a : Word} {v : Byte} (h : s.Sound) (hw : busWrite s a v = .next t) : t.Sound := by
  unfold busWrite at hw
  cases hwindow : windowOf a <;> simp only [hwindow] at hw
  case ram =>
    obtain rfl := Host.Outcome.next.inj hw
    exact h.setRam (Memory.sound_write h.ram (ramIndex_lt a) v)
  case ppu =>
    obtain rfl := Host.Outcome.next.inj hw
    exact sound_ppuRegWrite h _ v
  case apu =>
    obtain rfl := Host.Outcome.next.inj hw
    exact sound_apuWrite h _ v
  case undecoded | prg => exact sound_of_writeViolation h hw

theorem sound_push8 (h : s.Sound) (v : Byte) : (push8 v s).Sound :=
  (h.setRam (Memory.sound_write h.ram (ramIndex_lt (stackAddr s.cpu.s)) v)).of_stores rfl

end

/-- An instruction keeps the stores sound: registers are no part of them. -/
theorem Runs.sound {i : Instr} {s t : State} (h : Runs i s t) (hs : s.Sound) : t.Sound := by
  induction h with
  | start => exact hs
  | read _ addr ih => exact sound_busRead ih addr
  | write _ hw ih => exact sound_of_busWrite ih hw
  | _ => rename_i ih; exact ih.of_stores rfl

end Sys2Proof.Machine
end

section
/-! The invariant of the machine, kept by every step (10_state.md R24, R27–R32, R41, R44; 20_memory.md R95). -/

namespace Sys2Proof.Machine

open Sys2Proof.Claims

/-- U and B: never written one at a time, and what is pulled has U set and B clear (R24). -/
theorem keptByWrites_statusLegal (i : Instr) :
    KeptByWrites i fun c => flagOf c.p .u = true ∧ flagOf c.p .b = false where
  flag := fun f _ ⟨hu, hb⟩ c on hc => by
    rwa [flagOf_withFlag, flagOf_withFlag, if_neg hu.symm, if_neg hb.symm]
  pulled := fun _ _ v _ => ⟨flagOf_pulledStatus v .u, flagOf_pulledStatus v .b⟩

section
variable {s t : State}

theorem State.statusLegal_of_p (h : s.statusLegal = true) (hp : t.cpu.p = s.cpu.p) : t.statusLegal = true := by
  rwa [State.statusLegal, hp]

theorem State.scanlineLegal_iff : s.scanlineLegal = true ↔ -1 ≤ s.ppu.scanline ∧ s.ppu.scanline ≤ 260 := by
  simp [State.scanlineLegal]

theorem State.scanlineLegal_of_scanline (h : s.scanlineLegal = true) (hline : t.ppu.scanline = s.ppu.scanline) :
    t.scanlineLegal = true := by
  rwa [State.scanlineLegal, hline]

/-- Loading aside, the cartridge's legality is kept with the phase and the bank counts. -/
theorem State.cartridgeLegal_of_cart {chr : Memory} (h : s.cartridgeLegal = true) (hphase : t.phase = s.phase)
    (hcart : t.cart = { s.cart with chr := chr }) : t.cartridgeLegal = true := by
  rwa [State.cartridgeLegal, hphase, hcart]

/-- The invariant looks at nothing else. -/
theorem State.Inv.of_eq (h : s.Inv) (hp : t.cpu.p = s.cpu.p) (hstores : t.stores = s.stores)
    (hline : t.ppu.scanline = s.ppu.scanline) (hphase : t.phase = s.phase) : t.Inv := by
  obtain ⟨hstatus, hsound, hscanline, hcartridge⟩ := h
  have hcart : t.cart = s.cart := congrArg (·.2.2.2.2.2) hstores
  exact ⟨State.statusLegal_of_p hstatus hp,
    State.storesSound_iff.2 ((State.storesSound_iff.1 hsound).of_stores hstores),
    State.scanlineLegal_of_scanline hscanline hline, State.cartridgeLegal_of_cart hcartridge hphase hcart⟩

theorem Runs.inv {i : Instr} (h : Runs i s t) (hs : s.Inv) : t.Inv := by
  obtain ⟨hstatus, hsound, hscanline, hcartridge⟩ := hs
  have hkeeps := h.keeps
  exact ⟨State.statusLegal_iff.2 (h.cpu (keptByWrites_statusLegal i) (State.statusLegal_iff.1 hstatus)),
    State.storesSound_iff.2 (h.sound (State.storesSound_iff.1 hsound)),
    State.scanlineLegal_of_scanline hscanline hkeeps.scanline,
    State.cartridgeLegal_of_cart hcartridge hkeeps.phase hkeeps.cart⟩

end

/-- Settles O54: a step is one run of its instruction. -/
theorem stepKeepsTheInvariant : Obligations.StepKeepsTheInvariant := by
  intro s t hs h
  obtain ⟨-, i, hruns⟩ := runs_of_step h
  exact hruns.inv hs

end Sys2Proof.Machine
end

section
/-! The invariant, kept by every operation of the host contract (00_scope.md R7). -/

namespace Sys2Proof.Machine

open Sys2Proof.Claims

section
variable {s t : State}

/-! Loading (R92–R95). -/

theorem cartLoad_eq_next {image : List Byte} (h : cartLoad image s = .next t) :
    s.phase = .noCartridge ∧ imageByte image 4 ≠ 0 ∧
      t = { s with cart := cartridgeOf image s.cart.chr, halted := none, phase := .loaded } := by
  unfold cartLoad at h
  cases hphase : s.phase <;> simp only [hphase] at h
  case noCartridge =>
    split_ifs at h with _ _ _ _ hbanks
    exact ⟨rfl, hbanks, (Host.Outcome.next.inj h).symm⟩
  all_goals contradiction

/-- A copied slice of the image fits where its size does. -/
theorem Memory.sound_ofBytes_take {size n : Nat} (h : size ≤ n) (bytes : List Byte) :
    Memory.sound n (Memory.ofBytes (bytes.take size)) = true := by
  have hlen : 0 + (bytes.take size).length ≤ n := by rw [Nat.zero_add]; exact (List.length_take_le _ _).trans h
  rw [Memory.sound, Bool.and_eq_true]
  exact ⟨Memory.wf_ofBytes _, Memory.fits_ofBytesFrom _ 0 n hlen⟩

/-- Without a CHR bank the store that was there stays, one bank of RAM (R29, R92). -/
theorem sound_cartridgeOf_chr (image : List Byte) {chr : Memory} (h : Memory.sound 8192 chr = true) :
    Memory.sound (cartridgeOf image chr).chrBytes (cartridgeOf image chr).chr = true := by
  by_cases hbanks : imageByte image 5 = 0
  · simpa [cartridgeOf, Cartridge.chrBytes, hbanks] using h
  · simp only [cartridgeOf, hbanks, if_false]
    exact Memory.sound_ofBytes_take (Nat.mul_le_mul_right 8192 (Nat.le_max_left _ 1)) _

theorem inv_of_cartLoad {image : List Byte} (hs : s.Inv) (h : cartLoad image s = .next t) : t.Inv := by
  obtain ⟨hphase, hbanks, rfl⟩ := cartLoad_eq_next h
  obtain ⟨hstatus, hstores, hscanline, hcartridge⟩ := hs
  have hsound := State.storesSound_iff.1 hstores
  have hchrBanks : s.cart.chrBanks = 0 := by
    rw [State.cartridgeLegal, hphase] at hcartridge; exact beq_iff_eq.1 hcartridge
  have hchr : Memory.sound 8192 s.cart.chr = true := by
    have h := hsound.chr
    rwa [Cartridge.chrBytes, hchrBanks] at h
  exact ⟨hstatus, State.storesSound_iff.2 ⟨hsound.ram, hsound.nt, hsound.pal, hsound.oam, hsound.fb,
    Memory.sound_ofBytes_take le_rfl _, sound_cartridgeOf_chr image hchr⟩, hscanline, bne_iff_ne.2 hbanks⟩

/-! The resets (R340, R341). -/

theorem inv_cpuReset (hs : s.Inv) (hbanks : s.cart.prgBanks ≠ 0) : (cpuReset s).Inv := by
  obtain ⟨-, hstores, hscanline, -⟩ := hs
  rw [cpuReset_eq]
  exact ⟨State.statusLegal_of_cpu_afterReset rfl,
    State.storesSound_iff.2 ((State.storesSound_iff.1 hstores).of_stores rfl), hscanline, bne_iff_ne.2 hbanks⟩

theorem inv_ppuReset (hs : s.Inv) : (ppuReset s).Inv := by
  obtain ⟨hstatus, hstores, -, hcartridge⟩ := hs
  exact ⟨hstatus, State.storesSound_iff.2 ((State.storesSound_iff.1 hstores).of_stores rfl),
    State.scanlineLegal_of_ppu_afterReset rfl, hcartridge⟩

/-! A batch (R112). -/

theorem inv_of_cpuRun : ∀ {n : Nat} {s : State}, s.Inv → cpuRun n s = .next t → t.Inv
  | 0, _, hs, h => Host.Outcome.next.inj h ▸ hs
  | n + 1, s, hs, h => by
    obtain ⟨u, hstep, hrest⟩ := andThen_eq_next h
    exact inv_of_cpuRun (stepKeepsTheInvariant s u hs hstep) hrest

/-! A scanline advance (R251–R256, R310): its action keeps the counter, which then moves within its range. -/

theorem inv_moveScanline (hs : s.Inv) : (moveScanline s).Inv := by
  obtain ⟨hstatus, hstores, hscanline, hcartridge⟩ := hs
  obtain ⟨hlo, hhi⟩ := State.scanlineLegal_iff.1 hscanline
  rw [moveScanline_eq]
  refine ⟨hstatus, State.storesSound_iff.2 ((State.storesSound_iff.1 hstores).of_stores rfl),
    State.scanlineLegal_iff.2 ?_, hcartridge⟩
  simp only [State.setPpu_ppu]
  split <;> omega

theorem inv_sprite0Heuristic (hs : s.Inv) : (sprite0Heuristic s).Inv := by
  rw [sprite0Heuristic_eq]
  exact hs.of_eq rfl rfl rfl rfl

theorem inv_cpuNmi (hs : s.Inv) : (cpuNmi s).Inv := by
  obtain ⟨-, hstores, hscanline, hcartridge⟩ := hs
  have hpushed := sound_push8 (sound_push8 (sound_push8 (State.storesSound_iff.1 hstores) (hiByte s.cpu.pc))
    (loByte s.cpu.pc)) (statusForNmi s.cpu.p)
  rw [cpuNmi, enterHandler_eq (by decide) (by decide)]
  exact ⟨State.statusLegal_iff.2 ⟨flagOf_statusForNmi s.cpu.p .u, flagOf_statusForNmi s.cpu.p .b⟩,
    State.storesSound_iff.2 (hpushed.of_stores rfl), hscanline, hcartridge⟩

theorem inv_vblankEntry (hs : s.Inv) : (vblankEntry s).2.Inv := by
  have hflag : (s.setPpu { s.ppu with vblank := true }).Inv := hs.of_eq rfl rfl rfl rfl
  rw [vblankEntry]
  dsimp only
  split
  · exact inv_cpuNmi hflag
  · exact hflag

theorem inv_advanceScanline (hs : s.Inv) : (advanceScanline s).2.Inv := by
  unfold advanceScanline
  split_ifs
  · exact inv_moveScanline (hs.of_eq rfl rfl rfl rfl)
  · exact inv_moveScanline (inv_sprite0Heuristic hs)
  · exact inv_moveScanline (inv_vblankEntry hs)
  · exact inv_moveScanline hs

/-! A row (R261). -/

theorem sound_renderFrom (s : State) {y : Nat} (hy : y < frameHeight) : ∀ {n x : Nat} {fb : Memory}, x + n ≤ 256 →
    Memory.sound (frameHeight * frameWidth) fb = true →
    Memory.sound (frameHeight * frameWidth) (renderFrom s y n x fb) = true
  | 0, _, _, _, h => h
  | n + 1, x, fb, hle, h =>
    have hcell : y * frameWidth + x < frameHeight * frameWidth := by
      simp only [frameHeight, frameWidth] at hy ⊢; omega
    sound_renderFrom s hy (n := n) (x := x + 1) (by omega) (Memory.sound_write h hcell _)

theorem inv_renderRow (hs : s.Inv) {y : Nat} (hy : y < frameHeight) : (renderRow y s).Inv := by
  obtain ⟨hstatus, hstores, hscanline, hcartridge⟩ := hs
  have hsound := State.storesSound_iff.1 hstores
  have hfb := sound_renderFrom s hy (n := frameWidth) (x := 0) (by decide) hsound.fb
  rw [renderRow]
  generalize renderFrom s y frameWidth 0 s.fb = fb at hfb ⊢
  exact ⟨hstatus, State.storesSound_iff.2 (hsound.setFb hfb), hscanline, hcartridge⟩

/-! A button mask (R42). -/

theorem inv_setJoyState (hs : s.Inv) (k : Fin 2) (m : Byte) : (setJoyState k m s).Inv := by
  unfold setJoyState
  split
  · exact hs.of_eq rfl rfl rfl rfl
  · exact hs.of_eq rfl rfl rfl rfl

end

/-- Settles O56: each operation behind its guard. -/
theorem operationsKeepTheInvariant : Obligations.OperationsKeepTheInvariant := by
  intro op s t hs h
  cases op with
  | cartLoad image =>
    obtain ⟨-, hload⟩ := unlessHalted_eq_next h
    exact inv_of_cartLoad hs hload
  | cpuReset =>
    obtain ⟨-, -, hbanks, -, hreset⟩ := whenLoaded_eq_next h
    exact Host.Outcome.next.inj hreset ▸ inv_cpuReset hs hbanks
  | ppuReset =>
    obtain ⟨-, -, -, -, hreset⟩ := whenLoaded_eq_next h
    exact Host.Outcome.next.inj hreset ▸ inv_ppuReset hs
  | cpuRun n =>
    obtain ⟨-, hrun⟩ := whenReady_eq_next h
    exact inv_of_cpuRun hs hrun
  | advanceScanline =>
    obtain ⟨-, hnext⟩ := whenReady_eq_next h
    exact Host.Outcome.next.inj hnext ▸ inv_advanceScanline hs
  | renderRow y =>
    obtain ⟨-, hrow⟩ := whenReady_eq_next h
    split_ifs at hrow with hy
    exact Host.Outcome.next.inj hrow ▸ inv_renderRow hs hy
  | setJoyState k m =>
    obtain ⟨-, hmask⟩ := unlessHalted_eq_next h
    exact Host.Outcome.next.inj hmask ▸ inv_setJoyState hs k m

end Sys2Proof.Machine
end
